-- ==== Sys2Proof/Word.lean ====
section
/-!
DEFINITION. The words of the KCIO FSK modem core: its widths (00_scope.md R11) and their plainest constants.
-/

namespace Sys2Proof

/-- A host-visible register or a command word: 32 bits (R11, R80). -/
abbrev Word := BitVec 32

/-- A byte: a payload byte, a block number, a checksum, an IMM8 field (R45, R80). -/
abbrev Byte := BitVec 8

/-- A sample: 16 bits, read as two's complement (R11, R66). -/
abbrev Sample := BitVec 16

/-- `0xFFFFFFFF`: "edge timed out" in error information (R91), and ERR_POS when it names no frame position (R35). -/
def Word.allOnes : Word := 0xFFFFFFFF#32

end Sys2Proof
end

