-- ==== Sys2Proof/Syntax.lean ====
section
/-!
DEFINITION. The thirteen commands of the block (30_encoding.md R82, opcode_table.json), one constructor per row, and
the operand codes they carry (R86, R87).
-/

namespace Sys2Proof

/-- A symbol on the wire (00_scope.md R18, 30_encoding.md R86). -/
inductive BitValue where
  | zero
  | one
  | terminator
  deriving DecidableEq, Repr

/-- The direction of an amplitude ramp (30_encoding.md R87): `up` from 0 to A, `down` from A to 0. -/
inductive Direction where
  | up
  | down
  deriving DecidableEq, Repr

/-- A command. The argument, where there is one, is the word's IMM8 field (R80); which of its values are legal is
`Instr.WellFormed` (R83). -/
inductive Instr where
  /-- NOP (R198). -/
  | nop
  /-- COS (R117): its operands are ARG0 and ARG1. -/
  | cos
  /-- EMIT_BIT (R126): `imm` is a BitValue code. -/
  | emitBit (imm : Byte)
  /-- EMIT_BYTE (R128): the byte to emit. -/
  | emitByte (b : Byte)
  /-- EMIT_BLOCK (R130): the block number. -/
  | emitBlock (num : Byte)
  /-- EMIT_RAMP (R133): `imm` is a direction code. -/
  | emitRamp (imm : Byte)
  /-- NEXT_EDGE (R150). -/
  | nextEdge
  /-- ACQUIRE_SYNC (R168). -/
  | acquireSync
  /-- DECODE_BIT (R180). -/
  | decodeBit
  /-- DECODE_BYTE (R182). -/
  | decodeByte
  /-- DECODE_BLOCK (R184). -/
  | decodeBlock
  /-- SEQ_INIT (R196). -/
  | seqInit
  /-- SEQ_CHECK (R197): the received block number. -/
  | seqCheck (n : Byte)
  deriving DecidableEq, Repr

end Sys2Proof
end

