-- ==== Sys2Proof/WellFormed.lean ====
section
/-!
DEFINITION. Which terms of `Instr` are commands of the block: the legal IMM8 values of 30_encoding.md R83.
-/

namespace Sys2Proof

/-- The IMM8 of the command is legal for its opcode (R83). EMIT_BIT admits the codes 0, 1, 2 of R86, EMIT_RAMP the
codes 0, 1 of R87; every other operand admits every byte. -/
def Instr.wellFormed : Instr → Bool
  | .emitBit imm => imm.toNat ≤ 2
  | .emitRamp imm => imm.toNat ≤ 1
  | .nop | .cos | .emitByte _ | .emitBlock _ | .nextEdge | .acquireSync | .decodeBit | .decodeByte
  | .decodeBlock | .seqInit | .seqCheck _ => true

/-- `Instr.wellFormed` as a proposition. -/
abbrev Instr.WellFormed (i : Instr) : Prop := i.wellFormed = true

end Sys2Proof
end

