-- ==== Sys2Proof/Decode.lean ====
section
/-!
DEFINITION. The command decoder (30_encoding.md R80 to R84), total on every 32-bit word and rejecting by name, and
after it the encoder, written from the same tables.
-/

namespace Sys2Proof

/-- Why a word is illegal (30_encoding.md R84), in the order R84 lists the causes. -/
inductive DecodeError where
  /-- `word[31:16] != 0` (R81). -/
  | reservedBits
  /-- OPC is unassigned (R82). -/
  | unassignedOpcode
  /-- IMM8 is not legal for OPC (R83). -/
  | illegalImmediate
  deriving DecidableEq, Repr

/-- `OPC = word[7:0]` (R80). -/
def opcField (w : Word) : Byte := w.extractLsb' 0 8

/-- `IMM8 = word[15:8]` (R80). -/
def immField (w : Word) : Byte := w.extractLsb' 8 8

/-- `word[31:16]`, which must be 0 (R80, R81). -/
def reservedField (w : Word) : BitVec 16 := w.extractLsb' 16 16

/-- The command an opcode and an IMM8 name, before the legality of the IMM8 (R82). `none`: the opcode is unassigned. An
opcode that takes no operand gives its command whatever the IMM8; `takesImm` says which ones do. -/
def commandOf (opc imm : Byte) : Option Instr :=
  if opc = 0x00#8 then some .nop
  else if opc = 0x01#8 then some .cos
  else if opc = 0x02#8 then some (.emitBit imm)
  else if opc = 0x03#8 then some (.emitByte imm)
  else if opc = 0x04#8 then some (.emitBlock imm)
  else if opc = 0x05#8 then some (.emitRamp imm)
  else if opc = 0x08#8 then some .nextEdge
  else if opc = 0x09#8 then some .acquireSync
  else if opc = 0x0A#8 then some .decodeBit
  else if opc = 0x0B#8 then some .decodeByte
  else if opc = 0x0C#8 then some .decodeBlock
  else if opc = 0x10#8 then some .seqInit
  else if opc = 0x11#8 then some (.seqCheck imm)
  else none

/-- The command's IMM8 is an operand; the others admit `0x00` only (R83). -/
def takesImm : Instr → Bool
  | .emitBit _ | .emitByte _ | .emitBlock _ | .emitRamp _ | .seqCheck _ => true
  | .nop | .cos | .nextEdge | .acquireSync | .decodeBit | .decodeByte | .decodeBlock | .seqInit => false

/-- The decoder (R80 to R84): the legality checks, and the command of a legal word. -/
def decode (w : Word) : Except DecodeError Instr :=
  if reservedField w ≠ 0#16 then .error .reservedBits
  else
    match commandOf (opcField w) (immField w) with
    | none => .error .unassignedOpcode
    | some i =>
      if takesImm i = false ∧ immField w ≠ 0#8 then .error .illegalImmediate
      else if i.wellFormed then .ok i
      else .error .illegalImmediate

/-- The opcode of a command (R82). -/
def opcodeOf : Instr → Byte
  | .nop => 0x00#8
  | .cos => 0x01#8
  | .emitBit _ => 0x02#8
  | .emitByte _ => 0x03#8
  | .emitBlock _ => 0x04#8
  | .emitRamp _ => 0x05#8
  | .nextEdge => 0x08#8
  | .acquireSync => 0x09#8
  | .decodeBit => 0x0A#8
  | .decodeByte => 0x0B#8
  | .decodeBlock => 0x0C#8
  | .seqInit => 0x10#8
  | .seqCheck _ => 0x11#8

/-- The IMM8 of a command: its operand, or `0x00` (R83, R89). -/
def immOf : Instr → Byte
  | .emitBit imm => imm
  | .emitByte b => b
  | .emitBlock num => num
  | .emitRamp imm => imm
  | .seqCheck n => n
  | .nop | .cos | .nextEdge | .acquireSync | .decodeBit | .decodeByte | .decodeBlock | .seqInit => 0x00#8

/-- The encoder: `{16'b0, IMM8, OPC}` (R80, R89). -/
def encode (i : Instr) : Word := 0#16 ++ immOf i ++ opcodeOf i

/-- The instruction this decoder reads from a table row's bits. Every command is exactly one 32-bit word (R80), so the
bits above `nbits` are zero and a number that needs more than 32 bits is no command word. -/
def decodeTableWord (nbits w : Nat) : Option Instr :=
  if nbits ≤ 32 ∧ w < 2 ^ 32 then
    match decode (BitVec.ofNat 32 w) with
    | .ok i => some i
    | .error _ => none
  else none

end Sys2Proof
end

