-- ==== Sys2Proof/Config.lean ====
section
/-!
DEFINITION. What is fixed when the block is built (00_scope.md R10), and the values the spec leaves open: free values
with no body, about which nothing can be proved.
-/

namespace Sys2Proof.Config

/-- The value of the ID register (10_state.md R21). -/
def idValue : Word := 0x4B430001#32

/-- `PAYLOAD_BYTES` (R10): "exactly 128 payload bytes". -/
def payloadBytes : Nat := 128

/-- `PREAMBLE_CYCLES` (R10): the preamble of every block but the first of a stream. -/
def preambleCycles : Nat := 160

/-- `K` (R10): edge units per sample period. -/
def edgeUnits : Nat := 128

/-- `HALF = K/2` (R10): the half-sample correction. -/
def half : Nat := 64

/-- `EDGE_TIMEOUT(fs)` (R10), the `N_E` of 42_edge_detector.md R145. -/
def edgeTimeout (fs : Nat) : Nat := fs / 128 + 1

/-- `SYNC_MIN_EDGES` (R10): the accumulator count must exceed it. -/
def syncMinEdges : Nat := 32

/-- `SYNC_MIN` (R10), in edge units. -/
def syncMin : Nat := 256

/-- `SYNC_MAX` (R10), in edge units. -/
def syncMax : Nat := 8192

/-- `SYNC_TIMEOUT_S` (R10), in seconds. -/
def syncTimeoutSeconds : Nat := 3

/-- The acquisition budget in edge units, `3*fs*K` (43_synchronizer.md R161). -/
def syncBudget (fs : Nat) : Nat := syncTimeoutSeconds * fs * edgeUnits

/-- `COS_FRAC` (R10): the fraction bits of the cosine datapath. -/
def cosFrac : Nat := 30

/-- `Q = 2^COS_FRAC` (40_synthesis.md R110). -/
def cosOne : Nat := 2 ^ cosFrac

/-- `PI_Q` (R10): pi in Q30. -/
def piQ : Nat := 3373259426

/-- The largest legal CFG_SAMPLE_RATE, `2^20` (R9). -/
def maxSampleRate : Nat := 2 ^ 20

/-- The largest legal amplitude (R9). -/
def maxAmplitude : Nat := 32767

/-- The largest legal CFG_LEADIN (R9). -/
def maxLeadin : Nat := 65535

/-- FREE VALUE (10_state.md R48, 93_implementation_defined.md U1; log 4): `bufDraw p i` is the content of `Buf[i]`
after the `p`-th power-on reset, until the byte is written. -/
opaque bufDraw (p i : Nat) : Byte

/-- FREE VALUE (20_memory.md R64, 93_implementation_defined.md U2; log 5): `busyDraw n` is the `n`-th unspecified value
the host reads while BUSY = 1. -/
opaque busyDraw (n : Nat) : Word

/-- PARAMETER `BUS_ERROR_READ` (20_memory.md R60, 93_implementation_defined.md U5; log 6): what the platform makes of
the data of a read that got a bus error. -/
opaque busErrorRead : Word

/-- FREE VALUE (30_encoding.md R91; log 17): the result register after a command whose result is `n >= 2^32`, which no
32-bit word holds. Only the sample count of an EMIT_BLOCK with extreme CFG values reaches it. -/
opaque wideResult (n : Nat) : Word

end Sys2Proof.Config
end

