-- ==== Sys2Proof/Machine/State.lean ====
section
/-!
DEFINITION. The state of the block (10_state.md) with the environment's part of a run (20_memory.md R65 to R69, R75),
its value after power-on reset (R48), and the reasons a step could stop.
-/

namespace Sys2Proof.Machine

/-- The error codes of STATUS.ERR (30_encoding.md R88). The codes 6, 7, 14 and 15 are never produced. -/
inductive ErrCode where
  | none
  | decode
  | framing
  | syncLoss
  | checksum
  | sequence
  | illegalCmd
  | range
  | noBaseline
  | txState
  | cfgInvalid
  | cfgLocked
  deriving DecidableEq, Repr

/-- What `edge()` returns (42_edge_detector.md R145): a polarity change after `n` samples with corrected duration `d`, or
`n` samples without one, `d = n*K`. -/
inductive EdgeOutcome where
  | edge (d n : Nat)
  | timeout (d n : Nat)
  deriving DecidableEq, Repr

/-- Where a Modulator command stands: the cycle it is emitting (41_modulator.md R126 to R133). These are the Modulator's
transient counters (10_state.md R46). -/
inductive EmitPos where
  /-- EMIT_BIT's one cycle. -/
  | bit (v : BitValue)
  /-- EMIT_BYTE: bit `i` of the ByteFrame of `b`, `i = 8` being its TERMINATOR (R127). -/
  | byte (b : Byte) (i : Nat)
  /-- EMIT_BLOCK: a preamble cycle, `left` of them still to emit with this one (R129). -/
  | preamble (num : Byte) (left : Nat)
  /-- EMIT_BLOCK: the TERMINATOR after the preamble. -/
  | mark (num : Byte)
  /-- EMIT_BLOCK: bit `i` of the ByteFrame `b` at frame position `pos` (0 number, 1 to 128 payload, 129 checksum);
  `cs` is the sum mod 256 of the payload bytes read so far. -/
  | frame (pos : Nat) (b : Byte) (i : Nat) (cs : Byte)
  /-- EMIT_RAMP: ramp cycle `k`, 0 or 1 (R132). -/
  | ramp (dir : Direction) (k : Nat)
  deriving DecidableEq, Repr

/-- The synchroniser's transient registers (43_synchronizer.md R160, 10_state.md R46). `confirm = some avg`: a valid
candidate `avg` is waiting for its confirm edge (R165). -/
structure SyncAcc where
  count : Nat
  sum : Nat
  tot : Nat
  confirm : Option Nat
  deriving DecidableEq, Repr

/-- Which command wants the bit that `decodeBitP` is reading, with the transient registers of that command. -/
inductive BitUse where
  /-- DECODE_BIT (44_demodulator.md R180). -/
  | bit
  /-- DECODE_BYTE: data bit `i` (`i = 8`: the ninth bit), `v` the bits before it (R181). -/
  | byte (i : Nat) (v : Byte)
  /-- DECODE_BLOCK: frame position `pos`, block number `num`, running sum `cs`, and bit `i` of the byte whose bits before
  it are `v` (R183). -/
  | block (pos : Nat) (num cs : Byte) (i : Nat) (v : Byte)
  deriving DecidableEq, Repr

/-- Who waits for the outcome of the running `edge()` call. -/
inductive EdgeUse where
  /-- NEXT_EDGE (42_edge_detector.md R150). -/
  | report
  /-- `acquire()` (43_synchronizer.md R160); `forBlock` tells DECODE_BLOCK's acquisition from ACQUIRE_SYNC's. -/
  | sync (forBlock : Bool) (acc : SyncAcc)
  /-- `decodeBitP`'s first edge (44_demodulator.md R176). -/
  | first (use : BitUse)
  /-- `decodeBitP`'s second edge, the first having had duration `f`. -/
  | second (f : Nat) (use : BitUse)
  deriving DecidableEq, Repr

/-- The running stream command and where its pseudocode stands, always just before a transfer (70_reset_and_hazards.md
R255). -/
inductive Task where
  /-- A Modulator command, about to Push; `n` samples pushed so far. -/
  | emit (pos : EmitPos) (n : Nat)
  /-- A receive command, about to Pull inside `edge()`; `n` samples pulled by this call so far. -/
  | receive (n : Nat) (use : EdgeUse)
  deriving DecidableEq, Repr

/-- The width of a host access (20_memory.md R75). -/
inductive AccessSize where
  | byte
  | half
  | word
  deriving DecidableEq, Repr

/-- A host access (20_memory.md R75): an offset in the 4096-byte window (R50), a width, and for a write its data. -/
inductive Access where
  | read (addr : BitVec 12) (size : AccessSize)
  | write (addr : BitVec 12) (size : AccessSize) (data : Word)
  deriving DecidableEq, Repr

/-- The host response port (20_memory.md R75, R60). -/
inductive Response where
  /-- No access has been answered. -/
  | none
  /-- A write completed. -/
  | ack
  /-- A read completed with this value. -/
  | data (v : Word)
  /-- The access got a bus error. -/
  | busError
  deriving DecidableEq, Repr

/-- A move of the environment (20_memory.md R65, R75): which agent acts in the next step, and with what. -/
inductive Move where
  /-- The host performs an access. -/
  | host (a : Access)
  /-- The engine takes its turn. -/
  | engine
  /-- The source offers one more sample (in_valid). -/
  | offer (x : Sample)
  /-- The sink becomes ready for one more sample (out_ready). -/
  | accept
  /-- `rst` is asserted and released (70_reset_and_hazards.md R241). -/
  | powerOn
  deriving DecidableEq, Repr

/-- The registers of 20_memory.md R51. -/
inductive Reg where
  | id | ctrl | status | cmd | arg0 | arg1 | result0 | result1 | errPos
  | cfgSampleRate | cfgBaseFreq | cfgAmplitude | cfgLeadin | cfgSeq
  | phase | edgeState | baseline | seqState
  deriving DecidableEq, Repr

/-- The state: every register of 10_state.md under its own name, the payload buffer, the running command, and the
environment's part. STATUS.BUSY is 1 exactly when `task` is `some` (R24; log 3). -/
structure State where
  /-- The running stream command with its transient registers (R24, R46). -/
  task : Option Task
  /-- STATUS.DONE (R25). -/
  done : Bool
  /-- STATUS.TIMEOUT (R26). -/
  timeout : Bool
  /-- STATUS.TX_ACTIVE (R27). -/
  txActive : Bool
  /-- STATUS.FIRST_PENDING (R28). -/
  firstPending : Bool
  /-- STATUS.BASELINE_VALID (R29). -/
  baselineValid : Bool
  /-- STATUS.OVERRUN (R30). -/
  overrun : Bool
  /-- STATUS.ERR (R31). -/
  err : ErrCode
  /-- ARG0 (R33). -/
  arg0 : Word
  /-- ARG1 (R33). -/
  arg1 : Word
  /-- RESULT0 (R34). -/
  result0 : Word
  /-- RESULT1 (R34). -/
  result1 : Word
  /-- ERR_POS (R35). -/
  errPos : Word
  /-- CFG_SAMPLE_RATE, `fs` (R36). -/
  cfgSampleRate : Word
  /-- CFG_BASE_FREQ, `f0` (R37). -/
  cfgBaseFreq : Word
  /-- CFG_AMPLITUDE, `A` (R38). -/
  cfgAmplitude : Word
  /-- CFG_LEADIN (R39). -/
  cfgLeadin : Word
  /-- CFG_SEQ.PASSTHROUGH (R40). -/
  passthrough : Bool
  /-- CFG_SEQ.SEQ_FIRST (R40). -/
  seqFirst : Byte
  /-- PHASE, `P` (R41). -/
  phase : Word
  /-- EDGE_STATE.PREV_SAMPLE, `prev` (R42). -/
  prevSample : Sample
  /-- EDGE_STATE.PREV_OFFSET, `coff`, which is HALF (true) or 0 (false) (R42; log 11). -/
  prevHalf : Bool
  /-- BASELINE, `B` (R43). -/
  baseline : Word
  /-- SEQ_STATE.EXPECTED (R44). -/
  expected : Byte
  /-- SEQ_STATE.FINAL (R44). -/
  final : Bool
  /-- The payload buffer's written bytes, keyed by window offset (R45; log 4). -/
  mem : List Host.Cell
  /-- The environment's coming moves (R65; log 1). -/
  moves : List Move
  /-- The samples offered and not yet pulled, oldest first (R66; log 2). -/
  source : List Sample
  /-- How many more samples the sink is ready to accept (R68; log 2). -/
  sinkRoom : Nat
  /-- The samples pushed, oldest first (R69; log 2). -/
  pushed : List Sample
  /-- The answer to the last host access (R75; log 7). -/
  response : Response
  /-- How many power-on resets have followed the first: it selects the draw of Buf (R48; log 4). -/
  powerOns : Nat
  /-- How many unspecified reads have been answered: it selects the next draw (R64; log 5). -/
  draws : Nat
  deriving DecidableEq, Repr

/-- The state after power-on reset (10_state.md R48), with the environment's part empty. -/
def State.reset : State where
  task := none
  done := false
  timeout := false
  txActive := false
  firstPending := true
  baselineValid := false
  overrun := false
  err := .none
  arg0 := 0#32
  arg1 := 0#32
  result0 := 0#32
  result1 := 0#32
  errPos := 0xFFFFFFFF#32
  cfgSampleRate := 48000#32
  cfgBaseFreq := 600#32
  cfgAmplitude := 16384#32
  cfgLeadin := 1200#32
  passthrough := false
  seqFirst := 1#8
  phase := 0#32
  prevSample := 0#16
  prevHalf := false
  baseline := 0#32
  expected := 1#8
  final := false
  mem := []
  moves := []
  source := []
  sinkRoom := 0
  pushed := []
  response := .none
  powerOns := 0
  draws := 0

/-- The reasons the machine could stop with a fault. There are none: every error of the spec is a next state
(60_exceptions.md R225, 20_memory.md R60), and a stalled stream is a wait (R67, R68). Nothing raises one; that is safe. -/
inductive Fault where
  deriving DecidableEq, Repr

/-- The reasons a step could be refused. -/
inductive Refusal where
  /-- Raised by an arm of `exec` whose instruction has no meaning yet; every instruction has one, so nothing raises it.
  Safe: the machine stops where the hardware goes on. -/
  | notModelled (mnemonic : String)
  deriving DecidableEq, Repr

/-- The outcome of a step. -/
abbrev Outcome := Host.Outcome State Fault Refusal

end Sys2Proof.Machine
end

