-- ==== Sys2Proof/Machine/Operands.lean ====
section
/-!
DEFINITION. The operand forms: the codes of 30_encoding.md R86 to R88, the bits of a byte on the wire (R93), the tone
increments (41_modulator.md R125), the sign test (00_scope.md R13), and the offsets and widths of a host access
(20_memory.md R51, R75).
-/

namespace Sys2Proof.Machine

/-- The BitValue an EMIT_BIT code names (R86); `none` for the illegal codes. -/
def bitValueOfCode? (imm : Byte) : Option BitValue :=
  if imm = 0#8 then some .zero
  else if imm = 1#8 then some .one
  else if imm = 2#8 then some .terminator
  else none

/-- The code of a BitValue (R86). -/
def bitValueCode : BitValue → Nat
  | .zero => 0
  | .one => 1
  | .terminator => 2

/-- The direction an EMIT_RAMP code names (R87); `none` for the illegal codes. -/
def directionOfCode? (imm : Byte) : Option Direction :=
  if imm = 0#8 then some .up
  else if imm = 1#8 then some .down
  else none

/-- The 4-bit code of an error (R88). -/
def ErrCode.code : ErrCode → BitVec 4
  | .none => 0#4
  | .decode => 1#4
  | .framing => 2#4
  | .syncLoss => 3#4
  | .checksum => 4#4
  | .sequence => 5#4
  | .illegalCmd => 8#4
  | .range => 9#4
  | .noBaseline => 10#4
  | .txState => 11#4
  | .cfgInvalid => 12#4
  | .cfgLocked => 13#4

/-- Bit `i` of a ByteFrame: data bit `i` of `b` as ONE or ZERO for `i < 8`, then the TERMINATOR (R93). -/
def frameBit (b : Byte) (i : Nat) : BitValue :=
  if i < 8 then (if b.getLsbD i then .one else .zero) else .terminator

/-- The phase increment `inc(v)` of a BitValue: four times its frequency (R125, R18). -/
def toneIncrement (f0 : Nat) : BitValue → Nat
  | .zero => 16 * f0
  | .one => 8 * f0
  | .terminator => 4 * f0

/-- `neg(v)` (R13). -/
def neg (v : Int) : Bool := decide (v < 0)

/-- `dur(e)`: the `d` of either outcome (43_synchronizer.md R160). -/
def EdgeOutcome.dur : EdgeOutcome → Nat
  | .edge d _ => d
  | .timeout d _ => d

/-- The outcome is the timeout of 42_edge_detector.md R148. -/
def EdgeOutcome.isTimeout : EdgeOutcome → Bool
  | .edge _ _ => false
  | .timeout _ _ => true

/-- The number of bytes of an access (20_memory.md R75). -/
def AccessSize.bytes : AccessSize → Nat
  | .byte => 1
  | .half => 2
  | .word => 4

/-- The register at an offset (R51); `none` where no register starts. -/
def Reg.ofOffset (addr : Nat) : Option Reg :=
  match addr with
  | 0x000 => some .id
  | 0x004 => some .ctrl
  | 0x008 => some .status
  | 0x00C => some .cmd
  | 0x010 => some .arg0
  | 0x014 => some .arg1
  | 0x018 => some .result0
  | 0x01C => some .result1
  | 0x020 => some .errPos
  | 0x040 => some .cfgSampleRate
  | 0x044 => some .cfgBaseFreq
  | 0x048 => some .cfgAmplitude
  | 0x04C => some .cfgLeadin
  | 0x050 => some .cfgSeq
  | 0x080 => some .phase
  | 0x084 => some .edgeState
  | 0x088 => some .baseline
  | 0x08C => some .seqState
  | _ => none

/-- The window offset of `Buf[i]` (R56). -/
def bufOffset (i : Nat) : Nat := 0x100 + i

/-- The offset lies in the payload buffer, 0x100 to 0x17F (R56). -/
def inBuffer (addr : Nat) : Bool := 0x100 ≤ addr && addr < 0x180

/-- The offset is a multiple of the access width (R57). -/
def aligned (addr : Nat) (size : AccessSize) : Bool := addr % size.bytes == 0

/-- The offset of CMD (R51). -/
def cmdOffset : BitVec 12 := 0x00C#12

/-- The command word an access issues: a 4-byte write at CMD's offset (R32, R52, R222). -/
def Access.cmdWord? : Access → Option Word
  | .write addr .word w => if addr = cmdOffset then some w else none
  | .write _ _ _ => none
  | .read _ _ => none

end Sys2Proof.Machine
end

