-- ==== Sys2Proof/Machine/Flags.lean ====
section
/-!
DEFINITION. The STATUS flags and the register words the host reads that are made of fields: STATUS (10_state.md R23),
CFG_SEQ (R40), EDGE_STATE (R42), SEQ_STATE (R44).
-/

namespace Sys2Proof.Machine

/-- STATUS.BUSY: a stream command is running (R24). -/
def State.busy (s : State) : Bool := s.task.isSome

/-- A flag at bit `i` of a register word. -/
def flagBit (b : Bool) (i : Nat) : Word := if b then 1#32 <<< i else 0#32

/-- The bits of STATUS that read unspecified values while BUSY = 1: TIMEOUT, TX_ACTIVE, FIRST_PENDING and BASELINE_VALID
(20_memory.md R64). -/
def statusOpenMask : Word := 0x0000003C#32

/-- The STATUS word of its fields (R23); bits 6 and 31:12 are 0. -/
def State.statusWord (s : State) : Word :=
  flagBit s.busy 0 ||| flagBit s.done 1 ||| flagBit s.timeout 2 ||| flagBit s.txActive 3
    ||| flagBit s.firstPending 4 ||| flagBit s.baselineValid 5 ||| flagBit s.overrun 7
    ||| (s.err.code.setWidth 32 <<< 8)

/-- STATUS as read with `draw` for its open bits (R64). -/
def State.statusWordDrawn (s : State) (draw : Word) : Word :=
  (s.statusWord &&& ~~~statusOpenMask) ||| (draw &&& statusOpenMask)

/-- The CFG_SEQ word (R40); bits 7:1 and 31:16 are 0. -/
def State.cfgSeqWord (s : State) : Word :=
  flagBit s.passthrough 0 ||| (s.seqFirst.setWidth 32 <<< 8)

/-- PREV_OFFSET as a number of edge units: HALF or 0 (R42). -/
def State.prevOffset (s : State) : Nat := if s.prevHalf then Config.half else 0

/-- The EDGE_STATE word `{PREV_OFFSET, PREV_SAMPLE}` (R42). -/
def State.edgeStateWord (s : State) : Word := BitVec.ofNat 16 s.prevOffset ++ s.prevSample

/-- The SEQ_STATE word (R44); bits 31:9 are 0. -/
def State.seqStateWord (s : State) : Word := s.expected.setWidth 32 ||| flagBit s.final 8

end Sys2Proof.Machine
end

