-- ==== Sys2Proof/Machine/Ops.lean ====
section
/-!
DEFINITION. The named operations over memory and registers: the payload buffer, the sample streams, the life of a
command (60_exceptions.md R222 to R227), raising an error and the return from one, and the two resets.
-/

namespace Sys2Proof.Machine

/-! ### The payload buffer -/

/-- The byte written at a key, or `none` where no byte has been written since power-on. This is what an unlisted address
reads as: no value of its own (log 4). -/
def Memory.read : List Host.Cell → Nat → Option Byte
  | [], _ => none
  | (b, v) :: m, a => if b = a then some v else Memory.read m a

/-- Writing one byte, keeping the keys strictly rising. -/
def Memory.write : List Host.Cell → Nat → Byte → List Host.Cell
  | [], a, v => [(a, v)]
  | (b, w) :: m, a, v =>
    if a < b then (a, v) :: (b, w) :: m
    else if a = b then (a, v) :: m
    else (b, w) :: Memory.write m a v

/-- The canonical form: keys strictly rising. An unlisted key reads as `none`, which no entry equals. -/
def Memory.wf : List Host.Cell → Bool
  | [] => true
  | [_] => true
  | c :: d :: m => decide (c.1 < d.1) && Memory.wf (d :: m)

/-- The byte at a window offset in the buffer: what was written there, or the free value of its power-on draw
(10_state.md R45, R48; log 4). -/
def State.readByte (s : State) (addr : Nat) : Byte :=
  match Memory.read s.mem addr with
  | some v => v
  | none => Config.bufDraw s.powerOns (addr - 0x100)

/-- Storing one byte at a window offset in the buffer. -/
def State.writeByte (s : State) (addr : Nat) (v : Byte) : State :=
  { s with mem := Memory.write s.mem addr v }

/-- `Buf[i]` (R45). -/
def State.buf (s : State) (i : Nat) : Byte := s.readByte (bufOffset i)

/-- `Buf[i] <- v` (R45). -/
def State.setBuf (s : State) (i : Nat) (v : Byte) : State := s.writeByte (bufOffset i) v

/-- The little-endian value of `n` bytes from an offset, `sum Buf[i+k] * 2^(8k)` (20_memory.md R58). -/
def State.readBytes (s : State) (addr : Nat) : Nat → Nat
  | 0 => 0
  | n + 1 => (s.readByte addr).toNat + 256 * s.readBytes (addr + 1) n

/-- Storing the `n` low bytes of `v` little-endian from an offset (20_memory.md R58). -/
def State.writeBytes (s : State) (addr : Nat) (v : Nat) : Nat → State
  | 0 => s
  | n + 1 => (s.writeByte addr (BitVec.ofNat 8 v)).writeBytes (addr + 1) (v / 256) n

/-! ### The sample streams -/

/-- `Push(v)` once the sink is ready (20_memory.md R66, R68): the sample joins the output trace and one place of the
sink's readiness is used. -/
def State.push (s : State) (v : Int) : State :=
  { s with pushed := s.pushed ++ [BitVec.ofInt 16 v], sinkRoom := s.sinkRoom - 1 }

/-! ### The life of a command -/

/-- A CMD write while BUSY = 1 is dropped (10_state.md R30). -/
def State.drop (s : State) : State := { s with overrun := true }

/-- A CMD write while ERR is not NONE is refused (60_exceptions.md R227). -/
def State.refuse (s : State) : State := { s with done := true }

/-- The 32-bit word of a result (30_encoding.md R91). A count that needs more than 32 bits is a free value (log 17). -/
def resultWord (n : Nat) : Word := if n < 2 ^ 32 then BitVec.ofNat 32 n else Config.wideResult n

/-- `finish(r0, r1, timeout)`: the running command completes normally (60_exceptions.md R224). -/
def State.finish (s : State) (r0 r1 : Nat) (timeout : Bool) : State :=
  { s with
    result0 := resultWord r0, result1 := resultWord r1, timeout := timeout
    task := none, done := true }

/-- TAKING AN ERROR: `raise Err(code, r0, r1)` (60_exceptions.md R225), with `pos` what ERR_POS takes. The first error
wins (R226). -/
def State.raiseErr (s : State) (code : ErrCode) (r0 r1 pos : Word) : State :=
  { s with
    result0 := r0, result1 := r1, timeout := false
    err := if s.err = .none then code else s.err
    errPos := if s.err = .none then pos else s.errPos
    task := none, done := true }

/-- THE RETURN FROM AN ERROR: CTRL.CLR_ERR (45_framer_control.md R204, 60_exceptions.md R236). -/
def State.clrErr (s : State) : State := { s with err := .none, errPos := Word.allOnes }

/-- A refused configuration write (45_framer_control.md R199): the error is recorded if none stands. -/
def State.refuseCfg (s : State) (code : ErrCode) : State :=
  { s with
    err := if s.err = .none then code else s.err
    errPos := if s.err = .none then Word.allOnes else s.errPos }

/-- A stream command starts: BUSY = 1 with its pseudocode before its first transfer (60_exceptions.md R223). -/
def State.start (s : State) (t : Task) : State := { s with task := some t }

/-- The issue checks that come before the word's own (60_exceptions.md R222): dropped while BUSY, refused while ERR is
set, else `run` in the CMD write's own step. -/
def State.issue (s : State) (run : State → State) : Outcome :=
  if s.busy then .next s.drop
  else if s.err = .none then .next (run s)
  else .next s.refuse

/-- An issue check that fails: the error with RESULT0 = RESULT1 = 0 and no frame position (60_exceptions.md R221). -/
def State.usageErr (s : State) (code : ErrCode) : State := s.raiseErr code 0#32 0#32 Word.allOnes

/-- The CMD write of an illegal word (30_encoding.md R84, 60_exceptions.md R222). -/
def issueIllegal (s : State) : Outcome := s.issue fun s => s.usageErr .illegalCmd

/-! ### Resets -/

/-- The soft reset (45_framer_control.md R203, the third column of 10_state.md R48): the configuration, the buffer and
the streams are kept. -/
def State.softReset (s : State) : State :=
  { s with
    task := none, done := false, timeout := false, txActive := false, firstPending := true
    baselineValid := false, overrun := false, err := .none
    arg0 := 0#32, arg1 := 0#32, result0 := 0#32, result1 := 0#32, errPos := Word.allOnes
    phase := 0#32, prevSample := 0#16, prevHalf := false, baseline := 0#32
    expected := s.seqFirst, final := false }

/-- The power-on reset (70_reset_and_hazards.md R241, 10_state.md R48): every register at its power-on value, the buffer
unspecified again (a new draw), the streams and the environment as they were (R49). -/
def State.powerOn (s : State) : State :=
  { State.reset with
    moves := s.moves, source := s.source, sinkRoom := s.sinkRoom, pushed := s.pushed
    powerOns := s.powerOns + 1, draws := s.draws }

/-! ### The host response port -/

/-- A write completes on the host port (20_memory.md R75). -/
def State.ack (s : State) : State := { s with response := .ack }

/-- A read answers a value. -/
def State.answer (s : State) (v : Word) : State := { s with response := .data v }

/-- A read answers an unspecified value, a fresh draw (20_memory.md R64; log 5): `f` makes the value of the draw. -/
def State.answerDrawn (s : State) (f : Word → Word) : State :=
  { s with response := .data (f (Config.busyDraw s.draws)), draws := s.draws + 1 }

/-- The access gets a bus error and changes nothing of the block (20_memory.md R60). -/
def State.busError (s : State) : State := { s with response := .busError }

/-- What the host's read returns (20_memory.md R60, 93_implementation_defined.md U5): the data, or on a bus error the
platform's BUS_ERROR_READ; `none` where no read has been answered. -/
def Response.readValue : Response → Option Word
  | .data v => some v
  | .busError => some Config.busErrorRead
  | .ack => Option.none
  | .none => Option.none

end Sys2Proof.Machine
end

