-- ==== Sys2Proof/Machine/EdgeDetector.lean ====
section
/-!
DEFINITION. The EdgeDetector (42_edge_detector.md): one pull of the edge primitive, and NEXT_EDGE.
-/

namespace Sys2Proof.Machine

/-- The sign of `x` differs from the sign of `prev` (R145). -/
def signFlip (prev x : Sample) : Bool := neg x.toInt != neg prev.toInt

/-- The edge is dated half a sample later: the exact sum `prev + x` has not the sign of `x` (R145, R146, R149). -/
def edgeCorrected (prev x : Sample) : Bool := neg (prev.toInt + x.toInt) != neg x.toInt

/-- The correction `c` in edge units, HALF or 0 (R146). -/
def correction (corrected : Bool) : Nat := if corrected then Config.half else 0

/-- The duration `d = n*K + c - coff` of an edge seen at the `n`-th sample (R145, R147). -/
def edgeDuration (n : Nat) (corrected : Bool) (coff : Nat) : Nat := n * Config.edgeUnits + correction corrected - coff

/-- One turn of `edge()`'s loop on the pulled sample `x`, `n` samples having been pulled before it (R145): the new
EDGE_STATE, and the outcome if the call returns. -/
def edgePull (s : State) (n : Nat) (x : Sample) : State × Option EdgeOutcome :=
  if signFlip s.prevSample x then
    let c := edgeCorrected s.prevSample x
    ({ s with prevSample := x, prevHalf := c }, some (.edge (edgeDuration (n + 1) c s.prevOffset) (n + 1)))
  else if n + 1 = Config.edgeTimeout s.cfgSampleRate.toNat then
    ({ s with prevSample := x, prevHalf := false }, some (.timeout ((n + 1) * Config.edgeUnits) (n + 1)))
  else ({ s with prevSample := x }, none)

/-- A new `edge()` call begins for `use`: its sample counter starts at 0 (R145). -/
def State.awaitEdge (s : State) (use : EdgeUse) : State := s.start (.receive 0 use)

/-- NEXT_EDGE on the outcome of its edge (R150). -/
def reportEdge (s : State) : EdgeOutcome → State
  | .edge d n => s.finish d n false
  | .timeout d n => s.finish d n true

/-- NEXT_EDGE (R150). -/
def runNextEdge (s : State) : State :=
  s.awaitEdge .report

/-- NEXT_EDGE as a CMD write issues it (60_exceptions.md R222): `runNextEdge` after the issue checks. -/
def execNextEdge (s : State) : Outcome := s.issue runNextEdge

end Sys2Proof.Machine
end

