-- ==== Sys2Proof/Machine/Synchronizer.lean ====
section
/-!
DEFINITION. The CarrierSynchronizer (43_synchronizer.md): `acquire()` one edge at a time, and ACQUIRE_SYNC.
-/

namespace Sys2Proof.Machine

/-- The accumulator at the start of an acquisition (R160). -/
def SyncAcc.start : SyncAcc := { count := 0, sum := 0, tot := 0, confirm := none }

/-- What one edge makes of an acquisition: it goes on, it has found a baseline, or its budget is spent (R160). -/
inductive SyncResult where
  | more (acc : SyncAcc)
  | sync (avg tot : Nat)
  | timedOut (tot : Nat)
  deriving DecidableEq, Repr

/-- The run is reset; `tot` is not (R166). -/
def syncRestart (tot : Nat) : SyncResult := .more { count := 0, sum := 0, tot := tot, confirm := none }

/-- The consistency test: `count*d` within 25 % of `sum` (R162). -/
def syncConsistent (count sum d : Nat) : Bool := 3 * sum ≤ 4 * (count * d) && 4 * (count * d) ≤ 5 * sum

/-- The transition test: more than 32 edges, and `count*d` within 33 % of `2*sum` (R163). -/
def syncTransition (count sum d : Nat) : Bool :=
  Config.syncMinEdges < count && 4 * sum ≤ 3 * (count * d) && 3 * (count * d) ≤ 8 * sum

/-- The baseline candidate `sum/count`, rounded half up (R164). -/
def syncAverage (count sum : Nat) : Nat := (2 * sum + count) / (2 * count)

/-- The candidate lies in `[SYNC_MIN, SYNC_MAX]` (R164). -/
def syncInRange (avg : Nat) : Bool := Config.syncMin ≤ avg && avg ≤ Config.syncMax

/-- The confirm test: `d` within 33 % of `2*avg` (R165). -/
def syncConfirms (avg d : Nat) : Bool := 4 * avg ≤ 3 * d && 3 * d ≤ 8 * avg

/-- An edge of the scanning loop of `acquire()`, within budget (R160, R162 to R164, R166, R167); `tot` counts it already. -/
def syncScan (count sum tot : Nat) : EdgeOutcome → SyncResult
  | .timeout _ _ => syncRestart tot
  | .edge d _ =>
    if syncConsistent count sum d then
      .more { count := count + 1, sum := sum + d, tot := tot, confirm := none }
    else if syncTransition count sum d && syncInRange (syncAverage count sum) then
      .more { count := count, sum := sum, tot := tot, confirm := some (syncAverage count sum) }
    else syncRestart tot

/-- The confirm edge of a candidate, within budget (R165, R166). -/
def syncConfirm (avg tot : Nat) : EdgeOutcome → SyncResult
  | .timeout _ _ => syncRestart tot
  | .edge d _ => if syncConfirms avg d then .sync avg tot else syncRestart tot

/-- One edge of `acquire()` (R160): the budget first (R161), then the scan or the confirm test. -/
def syncEdge (fs : Nat) (acc : SyncAcc) (e : EdgeOutcome) : SyncResult :=
  let tot := acc.tot + e.dur
  if Config.syncBudget fs < tot then .timedOut tot
  else
    match acc.confirm with
    | none => syncScan acc.count acc.sum tot e
    | some avg => syncConfirm avg tot e

/-- The first bit of a block after its acquisition: frame position 0 (44_demodulator.md R183). -/
def blockFirstBit : EdgeUse := .first (.block 0 0#8 0#8 0 0#8)

/-- A baseline is acquired: BASELINE and BASELINE_VALID; ACQUIRE_SYNC completes (R168), DECODE_BLOCK goes on to the block
number (44_demodulator.md R183). -/
def acquired (s : State) (forBlock : Bool) (avg tot : Nat) : State :=
  let s1 := { s with baseline := BitVec.ofNat 32 avg, baselineValid := true }
  if forBlock then s1.awaitEdge blockFirstBit else s1.finish avg tot false

/-- An acquisition on the outcome of its edge (R168, 44_demodulator.md R184): after a timeout BASELINE and
BASELINE_VALID are unchanged. -/
def acquireEdge (s : State) (forBlock : Bool) (acc : SyncAcc) (e : EdgeOutcome) : State :=
  match syncEdge s.cfgSampleRate.toNat acc e with
  | .more acc' => s.awaitEdge (.sync forBlock acc')
  | .sync avg tot => acquired s forBlock avg tot
  | .timedOut tot => s.finish 0 tot true

/-- ACQUIRE_SYNC (R168). -/
def runAcquireSync (s : State) : State :=
  s.awaitEdge (.sync false .start)

/-- ACQUIRE_SYNC as a CMD write issues it (60_exceptions.md R222): `runAcquireSync` after the issue checks. -/
def execAcquireSync (s : State) : Outcome := s.issue runAcquireSync

end Sys2Proof.Machine
end

