-- ==== Sys2Proof/Machine/Demodulator.lean ====
section
/-!
DEFINITION. The Demodulator (44_demodulator.md): the bands, the bit, byte and block decoders one edge at a time, and
DECODE_BIT, DECODE_BYTE, DECODE_BLOCK.
-/

namespace Sys2Proof.Machine

/-- `lo*B <= 24*x <= hi*B` (R175). -/
def inBand (b x lo hi : Nat) : Bool := lo * b ≤ 24 * x && 24 * x ≤ hi * b

/-- `lo*B <= 24*x < hi*B` (R175). -/
def inBandOpen (b x lo hi : Nat) : Bool := lo * b ≤ 24 * x && decide (24 * x < hi * b)

/-- The sanity window of a first half-cycle (R175, R177). -/
def saneFirst (b f : Nat) : Bool := inBand b f 9 64

/-- The class of a pair of half-cycles by the table of R175, in the order of R176; `g = none` is a second edge that timed
out, an infinitely long half-cycle (R178). -/
def classify (b f : Nat) (g : Option Nat) : Option BitValue :=
  if inBand b f 9 15 && (match g with | some g => inBandOpen b g 8 16 | none => false) then some .zero
  else if inBand b f 18 30 && (match g with | some g => inBandOpen b g 16 32 | none => false) then some .one
  else if inBand b f 36 60 && (match g with | some g => decide (32 * b ≤ 24 * g) | none => true) then some .terminator
  else none

/-- ERR_POS of an error raised while a bit is decoded: the frame position inside DECODE_BLOCK, else `0xFFFFFFFF`
(10_state.md R35, R183). -/
def bitErrPos : BitUse → Word
  | .bit => Word.allOnes
  | .byte _ _ => Word.allOnes
  | .block pos _ _ _ _ => BitVec.ofNat 32 pos

/-- What one bit makes of a ByteFrame (R181). -/
inductive ByteResult where
  | more (i : Nat) (v : Byte)
  | byte (v : Byte)
  | framing
  | syncLoss
  deriving DecidableEq, Repr

/-- `v | (b << i)` of a data bit (R181). -/
def withBit (v : Byte) (i : Nat) (b : BitValue) : Byte :=
  match b with
  | .one => v ||| (1#8 <<< i)
  | .zero => v
  | .terminator => v

/-- Bit `i` of a ByteFrame is `b`, the bits before it being `v` (R181). -/
def byteStep (i : Nat) (v : Byte) (b : BitValue) : ByteResult :=
  if i < 8 then (if b = .terminator then .framing else .more (i + 1) (withBit v i b))
  else if b = .terminator then .byte v
  else .syncLoss

/-- FRAMING: the bit index and the bits before it (60_exceptions.md R217). -/
def raiseFraming (s : State) (i : Nat) (v : Byte) (pos : Word) : State :=
  s.raiseErr .framing (BitVec.ofNat 32 i) (v.setWidth 32) pos

/-- SYNC_LOSS: the ninth bit's code and the data byte (60_exceptions.md R218). -/
def raiseSyncLoss (s : State) (b : BitValue) (v : Byte) (pos : Word) : State :=
  s.raiseErr .syncLoss (BitVec.ofNat 32 (bitValueCode b)) (v.setWidth 32) pos

/-- A byte of a block frame is decoded (R183): the number, a payload byte written to Buf as decoded (R184), or the
checksum byte, which completes the command or raises CHECKSUM (R185). -/
def blockByte (s : State) (pos : Nat) (num cs v : Byte) : State :=
  if pos = 0 then s.awaitEdge (.first (.block 1 v 0#8 0 0#8))
  else if pos ≤ Config.payloadBytes then
    (s.setBuf (pos - 1) v).awaitEdge (.first (.block (pos + 1) num (cs + v) 0 0#8))
  else if v = cs then s.finish num.toNat cs.toNat false
  else s.raiseErr .checksum (v.setWidth 32) (cs.setWidth 32) (BitVec.ofNat 32 pos)

/-- A bit is decoded for the command that wanted it (R180 to R184). -/
def gotBit (s : State) (use : BitUse) (b : BitValue) : State :=
  match use with
  | .bit => s.finish (bitValueCode b) 0 false
  | .byte i v =>
    match byteStep i v b with
    | .more i' v' => s.awaitEdge (.first (.byte i' v'))
    | .byte v' => s.finish v'.toNat 0 false
    | .framing => raiseFraming s i v Word.allOnes
    | .syncLoss => raiseSyncLoss s b v Word.allOnes
  | .block pos num cs i v =>
    match byteStep i v b with
    | .more i' v' => s.awaitEdge (.first (.block pos num cs i' v'))
    | .byte v' => blockByte s pos num cs v'
    | .framing => raiseFraming s i v (BitVec.ofNat 32 pos)
    | .syncLoss => raiseSyncLoss s b v (BitVec.ofNat 32 pos)

/-- `decodeBitP` on its first edge (R176): a timeout and a duration outside the sanity window are DECODE at once (R177,
R178). -/
def bitFirstEdge (s : State) (use : BitUse) : EdgeOutcome → State
  | .timeout _ _ => s.raiseErr .decode Word.allOnes 0#32 (bitErrPos use)
  | .edge f _ =>
    if saneFirst s.baseline.toNat f then s.awaitEdge (.second f use)
    else s.raiseErr .decode (resultWord f) 0#32 (bitErrPos use)

/-- `g` of a second edge: its duration, or `none` for a timeout (R178). -/
def secondHalf : EdgeOutcome → Option Nat
  | .edge g _ => some g
  | .timeout _ _ => none

/-- `g` as error information: `0xFFFFFFFF` if the second edge timed out (R179). -/
def secondHalfWord : Option Nat → Word
  | some g => resultWord g
  | none => Word.allOnes

/-- `decodeBitP` on its second edge (R176): the class of the pair, or DECODE (R179). -/
def bitSecondEdge (s : State) (f : Nat) (use : BitUse) (e : EdgeOutcome) : State :=
  match classify s.baseline.toNat f (secondHalf e) with
  | some b => gotBit s use b
  | none => s.raiseErr .decode (resultWord f) (secondHalfWord (secondHalf e)) (bitErrPos use)

/-- DECODE_BIT (R180). -/
def runDecodeBit (s : State) : State :=
  if s.baselineValid then s.awaitEdge (.first .bit) else s.usageErr .noBaseline

/-- DECODE_BIT as a CMD write issues it (60_exceptions.md R222): `runDecodeBit` after the issue checks. -/
def execDecodeBit (s : State) : Outcome := s.issue runDecodeBit

/-- DECODE_BYTE (R182). -/
def runDecodeByte (s : State) : State :=
  if s.baselineValid then s.awaitEdge (.first (.byte 0 0#8)) else s.usageErr .noBaseline

/-- DECODE_BYTE as a CMD write issues it (60_exceptions.md R222): `runDecodeByte` after the issue checks. -/
def execDecodeByte (s : State) : Outcome := s.issue runDecodeByte

/-- DECODE_BLOCK (R184): no prior baseline is needed. -/
def runDecodeBlock (s : State) : State :=
  s.awaitEdge (.sync true .start)

/-- DECODE_BLOCK as a CMD write issues it (60_exceptions.md R222): `runDecodeBlock` after the issue checks. -/
def execDecodeBlock (s : State) : Outcome := s.issue runDecodeBlock

end Sys2Proof.Machine
end

