-- ==== Sys2Proof/Machine/Synthesis.lean ====
section
/-!
DEFINITION. The WaveformSynthesizer (40_synthesis.md): the fixed-point cosine, the tone sample, and COS.
-/

namespace Sys2Proof.Machine

/-- `theta = pi*y/(2*fs)` in Q30 (R110). -/
def cosAngle (fs y : Nat) : Nat := y * Config.piQ / (2 * fs)

/-- The Horner form of the 8th-degree Taylor polynomial of the cosine at `theta^2 = z` in Q30, before the clamp (R110). -/
def cosPoly (z : Int) : Int :=
  let q : Int := Config.cosOne
  let c := q - z / 56
  let c := q - z * c / (30 * q)
  let c := q - z * c / (12 * q)
  q - z * c / (2 * q)

/-- The clamp to `[0, Q]` (R111). -/
def cosClamp (c : Int) : Nat := (min (Config.cosOne : Int) (max 0 c)).toNat

/-- `cosq(y, a)`, about `a * cos(pi*y/(2*fs))` (R110). -/
def cosq (fs y a : Nat) : Nat :=
  let t := cosAngle fs y
  let z : Nat := t * t / 2 ^ Config.cosFrac
  a * cosClamp (cosPoly (z : Int)) / 2 ^ Config.cosFrac

/-- `abs(x - y)` of two non-negative integers. -/
def absDiff (x y : Nat) : Nat := (x - y) + (y - x)

/-- `toneSample(P, a)`: the positive half-cycle, then the negative one (R113). -/
def toneSample (fs p a : Nat) : Int :=
  if p < 2 * fs then (cosq fs (absDiff p fs) a : Int)
  else -(cosq fs (absDiff p (3 * fs)) a : Int)

/-- COS (R117): RANGE outside the operands' range, else RESULT0 = `cosq(2*ARG0, ARG1)`. -/
def runCos (s : State) : State :=
  if Config.maxAmplitude < s.arg1.toNat ∨ s.cfgSampleRate.toNat < 2 * s.arg0.toNat then s.usageErr .range
  else s.finish (cosq s.cfgSampleRate.toNat (2 * s.arg0.toNat) s.arg1.toNat) 0 false

/-- COS as a CMD write issues it (60_exceptions.md R222): `runCos` after the issue checks. -/
def execCos (s : State) : Outcome := s.issue runCos

end Sys2Proof.Machine
end

