-- ==== Sys2Proof/Machine/Modulator.lean ====
section
/-!
DEFINITION. The Modulator (41_modulator.md): the cycles of each command, its engine step, and EMIT_BIT, EMIT_BYTE,
EMIT_BLOCK, EMIT_RAMP.
-/

namespace Sys2Proof.Machine

/-- The BitValue whose tone the running cycle has (R126, R127, R129, R133). -/
def emitSymbol : EmitPos → BitValue
  | .bit v => v
  | .byte b i => frameBit b i
  | .preamble _ _ => .one
  | .mark _ => .terminator
  | .frame _ b i _ => frameBit b i
  | .ramp _ _ => .one

/-- `rampAmp(dir, k, P)`: the half raised-cosine envelope over two cycles (R132). -/
def rampAmp (fs a : Nat) (dir : Direction) (k p : Nat) : Nat :=
  let ye := (k * (4 * fs) + p) / 4
  let c : Int := if ye ≤ fs then (cosq fs ye a : Int) else -(cosq fs (2 * fs - ye) a : Int)
  match dir with
  | .up => (((a : Int) - c) / 2).toNat
  | .down => (((a : Int) + c) / 2).toNat

/-- `amp(P)` of the running cycle (40_synthesis.md R115): the envelope in a ramp, the constant A elsewhere. -/
def emitAmp (fs a p : Nat) : EmitPos → Nat
  | .ramp dir k => rampAmp fs a dir k p
  | .bit _ => a
  | .byte _ _ => a
  | .preamble _ _ => a
  | .mark _ => a
  | .frame _ _ _ _ => a

/-- The cycle after the one that ends, or `none` when the command's cycles are done (R127, R129, R133). EMIT_BLOCK reads
`Buf[pos]` as the byte of frame position `pos + 1` and adds it to the running checksum. -/
def nextCycle (s : State) : EmitPos → Option EmitPos
  | .bit _ => none
  | .byte b i => if i < 8 then some (.byte b (i + 1)) else none
  | .preamble num left => if 1 < left then some (.preamble num (left - 1)) else some (.mark num)
  | .mark num => some (.frame 0 num 0 0#8)
  | .frame pos b i cs =>
    if i < 8 then some (.frame pos b (i + 1) cs)
    else if pos < Config.payloadBytes then some (.frame (pos + 1) (s.buf pos) 0 (cs + s.buf pos))
    else if pos = Config.payloadBytes then some (.frame (pos + 1) cs 0 cs)
    else none
  | .ramp dir k => if k = 0 then some (.ramp dir 1) else none

/-- The completion of an EMIT command after `n` samples (R126, R128, R130, R133): RESULT0 = `n`; EMIT_BLOCK gives the
checksum in RESULT1, and EMIT_RAMP DOWN clears TX_ACTIVE in this step. -/
def finishEmit (s : State) (n : Nat) : EmitPos → State
  | .bit _ => s.finish n 0 false
  | .byte _ _ => s.finish n 0 false
  | .preamble _ _ => s.finish n 0 false
  | .mark _ => s.finish n 0 false
  | .frame _ _ _ cs => s.finish n cs.toNat false
  | .ramp .up _ => s.finish n 0 false
  | .ramp .down _ => { s with txActive := false }.finish n 0 false

/-- A cycle has ended after `n` samples in all: the next one begins, or the command completes. -/
def endCycle (s : State) (pos : EmitPos) (n : Nat) : State :=
  match nextCycle s pos with
  | some pos' => s.start (.emit pos' n)
  | none => finishEmit s n pos

/-- One engine step of an EMIT command: one turn of `emitCycle`'s loop (40_synthesis.md R115). -/
def emitStep (s : State) (pos : EmitPos) (n : Nat) : State :=
  let fs := s.cfgSampleRate.toNat
  let p := s.phase.toNat
  let p' := p + toneIncrement s.cfgBaseFreq.toNat (emitSymbol pos)
  let s1 := s.push (toneSample fs p (emitAmp fs s.cfgAmplitude.toNat p pos))
  if 4 * fs ≤ p' then endCycle { s1 with phase := BitVec.ofNat 32 (p' - 4 * fs) } pos (n + 1)
  else { s1 with phase := BitVec.ofNat 32 p' }.start (.emit pos (n + 1))

/-- The first cycle of EMIT_BLOCK with a preamble of `cnt` cycles (R129): with an empty preamble the TERMINATOR follows
directly (R130). -/
def blockStart (num : Byte) (cnt : Nat) : EmitPos := if cnt = 0 then .mark num else .preamble num cnt

/-- The preamble's length: LEADIN for the first block of a stream, else 160 (R129, R131). -/
def State.preambleLength (s : State) : Nat :=
  if s.firstPending then s.cfgLeadin.toNat else Config.preambleCycles

/-- EMIT_BIT (R126); an IMM8 that is no BitValue code is an illegal command (30_encoding.md R83, R84). -/
def runEmitBit (imm : Byte) (s : State) : State :=
  match bitValueOfCode? imm with
  | some v => s.start (.emit (.bit v) 0)
  | none => s.usageErr .illegalCmd

/-- EMIT_BIT as a CMD write issues it (60_exceptions.md R222): `runEmitBit` after the issue checks. -/
def execEmitBit (imm : Byte) (s : State) : Outcome := s.issue (runEmitBit imm)

/-- EMIT_BYTE (R128). -/
def runEmitByte (b : Byte) (s : State) : State :=
  s.start (.emit (.byte b 0) 0)

/-- EMIT_BYTE as a CMD write issues it (60_exceptions.md R222): `runEmitByte` after the issue checks. -/
def execEmitByte (b : Byte) (s : State) : Outcome := s.issue (runEmitByte b)

/-- EMIT_BLOCK (R130): FIRST_PENDING is read and cleared in the CMD write's step (R131). -/
def runEmitBlock (num : Byte) (s : State) : State :=
  { s with firstPending := false }.start (.emit (blockStart num s.preambleLength) 0)

/-- EMIT_BLOCK as a CMD write issues it (60_exceptions.md R222): `runEmitBlock` after the issue checks. -/
def execEmitBlock (num : Byte) (s : State) : Outcome := s.issue (runEmitBlock num)

/-- EMIT_RAMP (R133): TX_STATE when the bracket is violated; UP zeroes PHASE and sets TX_ACTIVE and FIRST_PENDING in the
CMD write's step. An IMM8 that is no direction code is an illegal command (30_encoding.md R83, R84). -/
def runEmitRamp (imm : Byte) (s : State) : State :=
  match directionOfCode? imm with
  | some .up =>
    if s.txActive then s.usageErr .txState
    else { s with phase := 0#32, txActive := true, firstPending := true }.start (.emit (.ramp .up 0) 0)
  | some .down =>
    if s.txActive then s.start (.emit (.ramp .down 0) 0) else s.usageErr .txState
  | none => s.usageErr .illegalCmd

/-- EMIT_RAMP as a CMD write issues it (60_exceptions.md R222): `runEmitRamp` after the issue checks. -/
def execEmitRamp (imm : Byte) (s : State) : Outcome := s.issue (runEmitRamp imm)

end Sys2Proof.Machine
end

