-- ==== Sys2Proof/Machine/Sequencer.lean ====
section
/-!
DEFINITION. The block-sequence checker and NOP (45_framer_control.md R195 to R198).
-/

namespace Sys2Proof.Machine

/-- NOP (R198). -/
def runNop (s : State) : State :=
  s.finish 0 0 false

/-- NOP as a CMD write issues it (60_exceptions.md R222): `runNop` after the issue checks. -/
def execNop (s : State) : Outcome := s.issue runNop

/-- SEQ_INIT (R196). -/
def runSeqInit (s : State) : State :=
  { s with expected := s.seqFirst, final := false }.finish s.seqFirst.toNat 0 false

/-- SEQ_INIT as a CMD write issues it (60_exceptions.md R222): `runSeqInit` after the issue checks. -/
def execSeqInit (s : State) : Outcome := s.issue runSeqInit

/-- SEQUENCE: the received number and EXPECTED (60_exceptions.md R220). -/
def raiseSequence (s : State) (n : Byte) : State :=
  s.raiseErr .sequence (n.setWidth 32) (s.expected.setWidth 32) Word.allOnes

/-- SEQ_CHECK (R197), in the order of its pseudocode. -/
def runSeqCheck (n : Byte) (s : State) : State :=
  if s.passthrough then s.finish n.toNat s.expected.toNat false
  else if s.final then raiseSequence s n
  else if n = 0xFF#8 then { s with final := true }.finish n.toNat s.expected.toNat false
  else if n = s.expected then { s with expected := s.expected + 1#8 }.finish n.toNat s.expected.toNat false
  else raiseSequence s n

/-- SEQ_CHECK as a CMD write issues it (60_exceptions.md R222): `runSeqCheck` after the issue checks. -/
def execSeqCheck (n : Byte) (s : State) : Outcome := s.issue (runSeqCheck n)

end Sys2Proof.Machine
end

