-- ==== Sys2Proof/Machine/Dispatch.lean ====
section
/-!
DEFINITION. What each command does in the step of its CMD write (60_exceptions.md R222, R223): one arm per command.
-/

namespace Sys2Proof.Machine

def exec (i : Instr) (s : State) : Host.Outcome State Fault Refusal :=
  match i with
  | .nop => Sys2Proof.Machine.execNop s
  | .cos => Sys2Proof.Machine.execCos s
  | .emitBit imm => Sys2Proof.Machine.execEmitBit imm s
  | .emitByte b => Sys2Proof.Machine.execEmitByte b s
  | .emitBlock num => Sys2Proof.Machine.execEmitBlock num s
  | .emitRamp imm => Sys2Proof.Machine.execEmitRamp imm s
  | .nextEdge => Sys2Proof.Machine.execNextEdge s
  | .acquireSync => Sys2Proof.Machine.execAcquireSync s
  | .decodeBit => Sys2Proof.Machine.execDecodeBit s
  | .decodeByte => Sys2Proof.Machine.execDecodeByte s
  | .decodeBlock => Sys2Proof.Machine.execDecodeBlock s
  | .seqInit => Sys2Proof.Machine.execSeqInit s
  | .seqCheck n => Sys2Proof.Machine.execSeqCheck n s

end Sys2Proof.Machine
end

