-- ==== Sys2Proof/Machine/Engine.lean ====
section
/-!
DEFINITION. The engine's step (20_memory.md R65, 70_reset_and_hazards.md R255): one transfer and the computation after it.
-/

namespace Sys2Proof.Machine

/-- The outcome of an edge goes to the command that waits for it. -/
def onEdge (s : State) (use : EdgeUse) (e : EdgeOutcome) : State :=
  match use with
  | .report => reportEdge s e
  | .sync forBlock acc => acquireEdge s forBlock acc e
  | .first use => bitFirstEdge s use e
  | .second f use => bitSecondEdge s f use e

/-- One engine step of a receive command on the pulled sample `x`. -/
def receiveStep (s : State) (n : Nat) (use : EdgeUse) (x : Sample) : State :=
  match edgePull s n x with
  | (s', some e) => onEdge s' use e
  | (s', none) => s'.start (.receive (n + 1) use)

/-- The engine's turn. With no command running nothing happens (70_reset_and_hazards.md R251). A Push waits for the sink
and a Pull for the source (20_memory.md R67, R68): the state is then unchanged. -/
def engineTurn (s : State) : State :=
  match s.task with
  | none => s
  | some (.emit pos n) => if s.sinkRoom = 0 then s else emitStep s pos n
  | some (.receive n use) =>
    match s.source with
    | [] => s
    | x :: rest => receiveStep { s with source := rest } n use x

end Sys2Proof.Machine
end

