-- ==== Sys2Proof/Machine/HostPort.lean ====
section
/-!
DEFINITION. The host port (20_memory.md R50 to R64): every access but a CMD write, which issues a command
(Machine/Step.lean), and the configuration and control writes of 45_framer_control.md R199 to R205.
-/

namespace Sys2Proof.Machine

/-! ### Configuration writes -/

/-- `locked(reg)` of the tone parameters (R201). -/
def State.toneLocked (s : State) : Bool := s.busy || s.txActive

/-- `locked(CFG_SEQ)` (R201). -/
def State.seqLocked (s : State) : Bool := s.busy

/-- The checks of a configuration write in their order (R199): locked, then legal, then accepted. -/
def cfgWrite (s : State) (locked legal : Bool) (accepted : State) : State :=
  if locked then s.refuseCfg .cfgLocked
  else if legal then accepted
  else s.refuseCfg .cfgInvalid

/-- CFG_SAMPLE_RATE (R200, R202): accepting it invalidates the baseline and zeroes PHASE. -/
def writeSampleRate (s : State) (v : Word) : State :=
  cfgWrite s s.toneLocked (16 * s.cfgBaseFreq.toNat ≤ v.toNat && v.toNat ≤ Config.maxSampleRate)
    { s with cfgSampleRate := v, baselineValid := false, phase := 0#32 }

/-- CFG_BASE_FREQ (R200, R202): accepting it invalidates the baseline. -/
def writeBaseFreq (s : State) (v : Word) : State :=
  cfgWrite s s.toneLocked (1 ≤ v.toNat && 16 * v.toNat ≤ s.cfgSampleRate.toNat)
    { s with cfgBaseFreq := v, baselineValid := false }

/-- CFG_AMPLITUDE (R200). -/
def writeAmplitude (s : State) (v : Word) : State :=
  cfgWrite s s.toneLocked (v.toNat ≤ Config.maxAmplitude) { s with cfgAmplitude := v }

/-- CFG_LEADIN (R200). -/
def writeLeadin (s : State) (v : Word) : State :=
  cfgWrite s s.toneLocked (v.toNat ≤ Config.maxLeadin) { s with cfgLeadin := v }

/-- CFG_SEQ (R199, R200): always legal; only PASSTHROUGH and SEQ_FIRST are kept, `v & 0x0000FF01`. -/
def writeCfgSeq (s : State) (v : Word) : State :=
  cfgWrite s s.seqLocked true { s with passthrough := v.getLsbD 0, seqFirst := v.extractLsb' 8 8 }

/-! ### Control and status writes -/

/-- CTRL (R203, R204; 10_state.md R22): bit 0 a soft reset, else bit 1 CLR_ERR, else nothing. -/
def writeCtrl (s : State) (v : Word) : State :=
  if v.getLsbD 0 then s.softReset else if v.getLsbD 1 then s.clrErr else s

/-- STATUS (R205): bit 1 clears DONE, bit 7 clears OVERRUN. -/
def writeStatus (s : State) (v : Word) : State :=
  { s with done := s.done && !v.getLsbD 1, overrun := s.overrun && !v.getLsbD 7 }

/-! ### Register accesses -/

/-- A 4-byte read of a register (20_memory.md R51, R54, R64): engine state read while BUSY = 1 is a fresh draw. -/
def readReg (s : State) : Reg → State
  | .id => s.answer Config.idValue
  | .ctrl => s.answer 0#32
  | .status => if s.busy then s.answerDrawn s.statusWordDrawn else s.answer s.statusWord
  | .cmd => s.answer 0#32
  | .arg0 => s.answer s.arg0
  | .arg1 => s.answer s.arg1
  | .result0 => s.answer s.result0
  | .result1 => s.answer s.result1
  | .errPos => s.answer s.errPos
  | .cfgSampleRate => s.answer s.cfgSampleRate
  | .cfgBaseFreq => s.answer s.cfgBaseFreq
  | .cfgAmplitude => s.answer s.cfgAmplitude
  | .cfgLeadin => s.answer s.cfgLeadin
  | .cfgSeq => s.answer s.cfgSeqWord
  | .phase => if s.busy then s.answerDrawn id else s.answer s.phase
  | .edgeState => if s.busy then s.answerDrawn id else s.answer s.edgeStateWord
  | .baseline => if s.busy then s.answerDrawn id else s.answer s.baseline
  | .seqState => s.answer s.seqStateWord

/-- A 4-byte write of a register other than CMD (20_memory.md R51, R54): a write to a read-only register changes nothing.
CMD's own arm is never taken, since a 4-byte write at its offset issues a command. -/
def writeReg (s : State) (v : Word) : Reg → State
  | .id => s
  | .ctrl => writeCtrl s v
  | .status => writeStatus s v
  | .cmd => s
  | .arg0 => { s with arg0 := v }
  | .arg1 => { s with arg1 := v }
  | .result0 => s
  | .result1 => s
  | .errPos => s
  | .cfgSampleRate => writeSampleRate s v
  | .cfgBaseFreq => writeBaseFreq s v
  | .cfgAmplitude => writeAmplitude s v
  | .cfgLeadin => writeLeadin s v
  | .cfgSeq => writeCfgSeq s v
  | .phase => s
  | .edgeState => s
  | .baseline => s
  | .seqState => s

/-! ### The port -/

/-- The register an access reaches: its offset is a register's and it is 4 bytes wide (R52, R53). -/
def regAt (addr : BitVec 12) (size : AccessSize) : Option Reg :=
  match size with
  | .word => Reg.ofOffset addr.toNat
  | .half => none
  | .byte => none

/-- The access reaches the buffer and may: aligned (R57), and BUSY = 0 (R59). -/
def State.bufferOpen (s : State) (addr : BitVec 12) (size : AccessSize) : Bool :=
  inBuffer addr.toNat && aligned addr.toNat size && !s.busy

/-- A host access (R50 to R60): a register, the buffer, or a bus error. -/
def hostPort (s : State) : Access → State
  | .read addr size =>
    match regAt addr size with
    | some r => readReg s r
    | none =>
      if s.bufferOpen addr size then s.answer (BitVec.ofNat 32 (s.readBytes addr.toNat size.bytes))
      else s.busError
  | .write addr size v =>
    match regAt addr size with
    | some r => (writeReg s v r).ack
    | none =>
      if s.bufferOpen addr size then (s.writeBytes addr.toNat v.toNat size.bytes).ack
      else s.busError

end Sys2Proof.Machine
end

