-- ==== Sys2Proof/Machine/Step.lean ====
section
/-!
DEFINITION. One step of the block with its environment (20_memory.md R65): the next move of the list, or the engine's turn
when no move is listed.
-/

namespace Sys2Proof.Machine

/-- A CMD write of word `w` (60_exceptions.md R222): the write completes on the host port, and the word is issued. -/
def issueWord (w : Word) (s : State) : Host.Outcome State Fault Refusal :=
  match decode w with
  | .ok i => exec i s.ack
  | .error _ => issueIllegal s.ack

/-- A host access is one step (20_memory.md R62): a CMD write issues a command, any other goes to the port. -/
def hostStep (a : Access) (s : State) : Host.Outcome State Fault Refusal :=
  match a.cmdWord? with
  | some w => issueWord w s
  | none => .next (hostPort s a)

/-- One move of the environment (log 1). -/
def perform (m : Move) (s : State) : Host.Outcome State Fault Refusal :=
  match m with
  | .host a => hostStep a s
  | .engine => .next (engineTurn s)
  | .offer x => .next { s with source := s.source ++ [x] }
  | .accept => .next { s with sinkRoom := s.sinkRoom + 1 }
  | .powerOn => .next s.powerOn

/-- One step: the next listed move, or the engine's turn when none is listed (log 1). -/
def step (s : State) : Host.Outcome State Fault Refusal :=
  match s.moves with
  | [] => .next (engineTurn s)
  | m :: rest => perform m { s with moves := rest }

/-- The state whose next step is the host's CMD write of the word `w`: the block fetches nothing (20_memory.md R72), and a
program is the host's accesses (10_state.md R47; log 9). The bits above `nbits` are zero. -/
def State.withFetchWord (s : State) (nbits w : Nat) : State :=
  { s with moves := .host (.write cmdOffset .word (BitVec.ofNat 32 (w % 2 ^ nbits))) :: s.moves }

end Sys2Proof.Machine
end

