-- ==== Sys2Proof/Safety.lean ====
section
/-!
DEFINITION. What statements about the block are said in: the invariant of its states, the wire format as lists of symbols
and samples (30_encoding.md R92 to R95, 40_synthesis.md R115), and the runs of the engine.
-/

namespace Sys2Proof.Machine

/-! ### The invariant -/

/-- The configuration is legal (45_framer_control.md R200). -/
def State.cfgLegal (s : State) : Bool :=
  1 ≤ s.cfgBaseFreq.toNat && 16 * s.cfgBaseFreq.toNat ≤ s.cfgSampleRate.toNat
    && s.cfgSampleRate.toNat ≤ Config.maxSampleRate && s.cfgAmplitude.toNat ≤ Config.maxAmplitude
    && s.cfgLeadin.toNat ≤ Config.maxLeadin

/-- `0 <= P < 4*fs` (10_state.md R41). -/
def State.phaseLegal (s : State) : Bool := s.phase.toNat < 4 * s.cfgSampleRate.toNat

/-- Whenever BASELINE_VALID = 1, `SYNC_MIN <= B <= SYNC_MAX` (10_state.md R43). -/
def State.baselineLegal (s : State) : Bool := !s.baselineValid || syncInRange s.baseline.toNat

/-- ERR_POS is `0xFFFFFFFF` while no error is recorded, and otherwise that or a frame position (10_state.md R35). -/
def State.errPosLegal (s : State) : Bool :=
  s.errPos == Word.allOnes || (s.err != .none && decide (s.errPos.toNat ≤ 129))

/-- The buffer's cells are in canonical form and lie in the buffer (10_state.md R45). -/
def State.memLegal (s : State) : Bool := Memory.wf s.mem && s.mem.all fun c => inBuffer c.1

/-- The Modulator's counters are in their ranges; a ramp runs only in a transmission (41_modulator.md R127, R129, R133). -/
def emitPosLegal (s : State) : EmitPos → Bool
  | .bit _ => true
  | .byte _ i => i ≤ 8
  | .preamble _ left => 1 ≤ left && left ≤ Config.maxLeadin
  | .mark _ => true
  | .frame pos _ i _ => pos ≤ 129 && i ≤ 8
  | .ramp _ k => k ≤ 1 && s.txActive

/-- The decoder's counters are in their ranges (44_demodulator.md R181, R183). -/
def bitUseLegal : BitUse → Bool
  | .bit => true
  | .byte i _ => i ≤ 8
  | .block pos _ _ i _ => pos ≤ 129 && i ≤ 8

/-- The synchroniser's accumulator is within its budget, every accepted edge lasting at least HALF (43_synchronizer.md
R161, R162), and a candidate is in range (R164). -/
def syncAccLegal (fs : Nat) (acc : SyncAcc) : Bool :=
  acc.tot ≤ Config.syncBudget fs && acc.sum ≤ acc.tot && Config.half * acc.count ≤ acc.sum
    && (match acc.confirm with | some avg => syncInRange avg | none => true)

/-- The consumer of the running `edge()` call is in order: a bit is decoded only against a valid baseline (10_state.md
R29), and its first half-cycle has passed the sanity window (44_demodulator.md R177). -/
def edgeUseLegal (s : State) : EdgeUse → Bool
  | .report => true
  | .sync _ acc => syncAccLegal s.cfgSampleRate.toNat acc
  | .first use => s.baselineValid && bitUseLegal use
  | .second f use => s.baselineValid && bitUseLegal use && saneFirst s.baseline.toNat f

/-- The running command is at a place its pseudocode has; an `edge()` call has pulled fewer than `N_E` samples
(42_edge_detector.md R145). -/
def State.taskLegal (s : State) : Bool :=
  match s.task with
  | none => true
  | some (.emit pos _) => emitPosLegal s pos
  | some (.receive n use) => decide (n < Config.edgeTimeout s.cfgSampleRate.toNat) && edgeUseLegal s use

/-- The invariant of the block's states. -/
abbrev State.Inv (s : State) : Prop :=
  s.cfgLegal = true ∧ s.phaseLegal = true ∧ s.baselineLegal = true ∧ s.errPosLegal = true ∧ s.memLegal = true
    ∧ s.taskLegal = true

/-- No command runs and no error stands: a legal CMD write is executed (60_exceptions.md R222). -/
abbrev State.Ready (s : State) : Prop := s.busy = false ∧ s.err = .none

/-! ### The wire format -/

/-- The ByteFrame of a byte (30_encoding.md R93): the data bits, least significant first, then a TERMINATOR. -/
def byteFrame (b : Byte) : List BitValue :=
  ((List.range 8).map fun i => if b.getLsbD i then BitValue.one else BitValue.zero) ++ [.terminator]

/-- The block checksum: the sum of the payload bytes mod 256 (30_encoding.md R95). -/
def checksum (payload : List Byte) : Byte := payload.foldl (· + ·) 0#8

/-- The block frame with a preamble of `cnt` cycles (30_encoding.md R94). -/
def blockFrame (cnt : Nat) (num : Byte) (payload : List Byte) : List BitValue :=
  List.replicate cnt .one ++ [.terminator] ++ byteFrame num ++ payload.flatMap byteFrame
    ++ byteFrame (checksum payload)

/-- The payload `Buf[0..127]` (10_state.md R45). -/
def State.payload (s : State) : List Byte := (List.range Config.payloadBytes).map s.buf

/-! ### The samples of a cycle -/

/-- `ceil((4*fs - p) / inc)`, the number of samples of a cycle that starts at phase `p` (40_synthesis.md R115). -/
def cycleLength (fs inc p : Nat) : Nat := (4 * fs - p + (inc - 1)) / inc

/-- The samples of a cycle from phase `p` with amplitude `amp` (40_synthesis.md R115). -/
def cycleSamples (fs inc : Nat) (amp : Nat → Nat) (p : Nat) : List Int :=
  (List.range (cycleLength fs inc p)).map fun j => toneSample fs (p + j * inc) (amp (p + j * inc))

/-- The phase a cycle leaves (40_synthesis.md R115). -/
def cycleEnd (fs inc p : Nat) : Nat := p + cycleLength fs inc p * inc - 4 * fs

/-- The samples of a run of symbols at constant amplitude `a`, phase-continuous from `p` (30_encoding.md R92). -/
def toneSamples (fs f0 a : Nat) : Nat → List BitValue → List Int
  | _, [] => []
  | p, v :: vs =>
    cycleSamples fs (toneIncrement f0 v) (fun _ => a) p
      ++ toneSamples fs f0 a (cycleEnd fs (toneIncrement f0 v) p) vs

/-- The phase a run of symbols leaves. -/
def toneEnd (fs f0 : Nat) : Nat → List BitValue → Nat
  | p, [] => p
  | p, v :: vs => toneEnd fs f0 (cycleEnd fs (toneIncrement f0 v) p) vs

/-- The samples a run of symbols has from the state `s` (its configuration and its PHASE). -/
def State.tones (s : State) (vs : List BitValue) : List Int :=
  toneSamples s.cfgSampleRate.toNat s.cfgBaseFreq.toNat s.cfgAmplitude.toNat s.phase.toNat vs

/-- The state after a command has pushed `xs` and left PHASE at `p`, complete with `r0` and `r1`. -/
def State.emitted (s : State) (xs : List Int) (p : Nat) (r0 r1 : Word) : State :=
  { s with
    pushed := s.pushed ++ xs.map (BitVec.ofInt 16), sinkRoom := s.sinkRoom - xs.length
    phase := BitVec.ofNat 32 p, result0 := r0, result1 := r1, timeout := false, task := none, done := true }

/-! ### Runs -/

/-- `k` steps from the CMD write of the command `i`, the host then leaving the block alone. -/
def State.runCommand (s : State) (i : Instr) (k : Nat) : Outcome :=
  Sys2Proof.core.run (k + 1) (s.withFetchWord 32 (encode i).toNat)

/-- The move of the next step, or `none` when it is the engine's turn because no move is listed. -/
def State.nextMove (s : State) : Option Move := s.moves.head?

/-- The next step is the engine's turn. -/
abbrev State.EngineNext (s : State) : Prop := s.nextMove = none ∨ s.nextMove = some .engine

/-- The next step is a 4-byte host write of `v` at `addr`. -/
abbrev State.WritesNext (s : State) (addr : BitVec 12) (v : Word) : Prop :=
  s.nextMove = some (.host (.write addr .word v))

/-- The offsets of the registers (20_memory.md R51). -/
def registerOffsets : List Nat :=
  [0x000, 0x004, 0x008, 0x00C, 0x010, 0x014, 0x018, 0x01C, 0x020, 0x040, 0x044, 0x048, 0x04C, 0x050, 0x080, 0x084,
    0x088, 0x08C]

/-- One outcome of `edge()` given to the command that waits for it. -/
def feedEdge (s : State) (e : EdgeOutcome) : State :=
  match s.task with
  | some (.receive _ use) => onEdge s use e
  | some (.emit _ _) => s
  | none => s

/-- A list of pairs of edges given to the waiting command, in order. -/
def feedPairs (s : State) (es : List (EdgeOutcome × EdgeOutcome)) : State :=
  es.foldl (fun s p => feedEdge (feedEdge s p.1) p.2) s

/-- The pair of edges is a bit of class `v` at baseline `b` (44_demodulator.md R175, R176). -/
def carriesBit (b : Nat) (v : BitValue) (p : EdgeOutcome × EdgeOutcome) : Bool :=
  !p.1.isTimeout && saneFirst b p.1.dur && classify b p.1.dur (secondHalf p.2) == some v

/-- The pairs of edges carry the symbols, one each. -/
def carries (b : Nat) : List BitValue → List (EdgeOutcome × EdgeOutcome) → Bool
  | [], [] => true
  | v :: vs, p :: ps => carriesBit b v p && carries b vs ps
  | [], _ :: _ => false
  | _ :: _, [] => false

/-- `Buf[0..]` filled with the bytes of `payload`, in index order from `i`. -/
def State.storePayload (s : State) (i : Nat) : List Byte → State
  | [] => s
  | b :: bs => (s.setBuf i b).storePayload (i + 1) bs

/-- The frame position a bit belongs to, where a DECODE_BLOCK is reading it (10_state.md R35, 44_demodulator.md R183). -/
def BitUse.framePos : BitUse → Option Nat
  | .bit => none
  | .byte _ _ => none
  | .block pos _ _ _ _ => some pos

/-- The state after a running command has aborted with `code`, `r0`, `r1` (60_exceptions.md R225): ERR and ERR_POS take the
error only if none stands (R226), and ERR_POS takes the frame position, or `0xFFFFFFFF` where there is none (10_state.md
R35). -/
def State.aborted (s : State) (code : ErrCode) (r0 r1 : Word) (pos : Option Nat) : State :=
  { s with
    result0 := r0, result1 := r1, timeout := false, task := none, done := true
    err := if s.err = .none then code else s.err
    errPos :=
      if s.err = .none then (match pos with | some p => BitVec.ofNat 32 p | none => 0xFFFFFFFF#32) else s.errPos }

/-- The state after a running command has completed with `r0`, `r1` and no timeout (60_exceptions.md R224). -/
def State.completed (s : State) (r0 r1 : Word) : State :=
  { s with result0 := r0, result1 := r1, timeout := false, task := none, done := true }

/-- Every sample of `xs` has the sign of `prev` (42_edge_detector.md R145). -/
def sameSign (prev : Sample) (xs : List Sample) : Bool := xs.all fun x => neg x.toInt == neg prev.toInt

/-- PREV_SAMPLE after the samples `xs` have been pulled. -/
def lastSample (prev : Sample) (xs : List Sample) : Sample := xs.getLastD prev

end Sys2Proof.Machine
end

