-- ==== Sys2Proof/Certificates/Slice0/Obligations.lean ====
section
/-!
DEFINITION. The statements for the provers. Each docstring names the rules of spec/ it formalises.
-/

open Sys2Proof Sys2Proof.Machine

/-! ### Encoding -/

/-- R80, R82, R83, R89: the decoder gives back every legal command from its encoding, whatever its operand. -/
def Obligations.DecodeOfEncodeIsTheCommand : Prop :=
  ∀ i : Instr, i.WellFormed → decode (encode i) = .ok i

/-- R80, R82, R83: a word that decodes is the encoding of the command it decodes to, and that command is legal. -/
def Obligations.DecodedWordIsItsEncoding : Prop :=
  ∀ (w : Word) (i : Instr), decode w = .ok i → i.WellFormed ∧ encode i = w

/-- R84 with the lists of R81, R82, R83: the words the decoder rejects are exactly the illegal ones. -/
def Obligations.WordIsIllegalExactlyWhenListed : Prop :=
  ∀ w : Word,
    let reserved := (w.extractLsb' 16 16).toNat
    let imm := (w.extractLsb' 8 8).toNat
    let opc := (w.extractLsb' 0 8).toNat
    (∃ e, decode w = .error e) ↔
      reserved ≠ 0
        ∨ (opc = 0x06 ∨ opc = 0x07 ∨ (0x0D ≤ opc ∧ opc ≤ 0x0F) ∨ 0x12 ≤ opc)
        ∨ ((opc = 0x00 ∨ opc = 0x01 ∨ opc = 0x08 ∨ opc = 0x09 ∨ opc = 0x0A ∨ opc = 0x0B ∨ opc = 0x0C ∨ opc = 0x10)
            ∧ imm ≠ 0)
        ∨ (opc = 0x02 ∧ 3 ≤ imm) ∨ (opc = 0x05 ∧ 2 ≤ imm)

/-- R82, R126, R130, R133, R150, R184, R197: command words of the spec's text decode to the commands they name. -/
def Obligations.WordsOfTheSpecDecode : Prop :=
  decode 0x00000202#32 = .ok (.emitBit 2#8) ∧ decode 0x00004103#32 = .ok (.emitByte 0x41#8)
    ∧ decode 0x00000104#32 = .ok (.emitBlock 1#8) ∧ decode 0x00000105#32 = .ok (.emitRamp 1#8)
    ∧ decode 0x00000008#32 = .ok .nextEdge ∧ decode 0x0000000C#32 = .ok .decodeBlock
    ∧ decode 0x0000FF11#32 = .ok (.seqCheck 0xFF#8) ∧ decode 0x00000302#32 = .error .illegalImmediate

/-! ### Issuing a command -/

/-- R222: a step whose move is a CMD write of a legal word is `exec` of the command it decodes to, the write having been
acknowledged on the host port and the move taken off the list. The list of moves and the port's field are the model's (log
1, log 7). -/
def Obligations.StepIssuesTheDecodedCommand : Prop :=
  ∀ (s : State) (w : Word) (i : Instr) (rest : List Move),
    s.moves = .host (.write cmdOffset .word w) :: rest → decode w = .ok i →
      step s = exec i { s with moves := rest, response := .ack }

/-- R84, R222, R225: with no command running and no error standing, an illegal word raises ILLEGAL_CMD with RESULT0 =
RESULT1 = 0 and no frame position, and changes nothing else. -/
def Obligations.IllegalWordRaisesIllegalCmd : Prop :=
  ∀ (s : State) (w : Word) (e : DecodeError) (rest : List Move),
    s.moves = .host (.write cmdOffset .word w) :: rest → decode w = .error e → s.Ready →
      step s = .next { s with
        moves := rest, response := .ack, result0 := 0#32, result1 := 0#32, timeout := false, err := .illegalCmd
        errPos := 0xFFFFFFFF#32, done := true }

/-- R30: a CMD write while BUSY = 1, of any word, only sets OVERRUN. -/
def Obligations.CmdWriteWhileBusyIsDropped : Prop :=
  ∀ (s : State) (w : Word) (rest : List Move),
    s.moves = .host (.write cmdOffset .word w) :: rest → s.busy = true →
      step s = .next { s with moves := rest, response := .ack, overrun := true }

/-- R227: a CMD write that is not dropped while ERR is set, of any word, only sets DONE. -/
def Obligations.CmdWriteUnderErrorIsRefused : Prop :=
  ∀ (s : State) (w : Word) (rest : List Move),
    s.moves = .host (.write cmdOffset .word w) :: rest → s.busy = false → s.err ≠ .none →
      step s = .next { s with moves := rest, response := .ack, done := true }

/-- Rules R222 to R224 and the command rules: what the CMD write's step of any command leaves alone, in every state:
operands, configuration, engine state of the receiver, the streams, the port, and every byte of the buffer. PHASE changes
only for EMIT_RAMP UP, SEQ_STATE only for SEQ_INIT and SEQ_CHECK, TX_ACTIVE only for EMIT_RAMP, FIRST_PENDING only for
EMIT_RAMP and EMIT_BLOCK. -/
def Obligations.CommandWriteFrame : Prop :=
  ∀ (i : Instr) (s t : State), exec i s = .next t →
    t.arg0 = s.arg0 ∧ t.arg1 = s.arg1 ∧ t.cfgSampleRate = s.cfgSampleRate ∧ t.cfgBaseFreq = s.cfgBaseFreq
      ∧ t.cfgAmplitude = s.cfgAmplitude ∧ t.cfgLeadin = s.cfgLeadin ∧ t.passthrough = s.passthrough
      ∧ t.seqFirst = s.seqFirst ∧ t.prevSample = s.prevSample ∧ t.prevHalf = s.prevHalf ∧ t.baseline = s.baseline
      ∧ t.baselineValid = s.baselineValid ∧ t.source = s.source ∧ t.sinkRoom = s.sinkRoom ∧ t.pushed = s.pushed
      ∧ t.moves = s.moves ∧ t.response = s.response ∧ t.powerOns = s.powerOns ∧ t.draws = s.draws
      ∧ (∀ a, t.readByte a = s.readByte a)
      ∧ (i ≠ .emitRamp 0#8 → t.phase = s.phase)
      ∧ (i ≠ .seqInit → (∀ n, i ≠ .seqCheck n) → t.expected = s.expected ∧ t.final = s.final)
      ∧ (i ≠ .emitRamp 0#8 → t.txActive = s.txActive)
      ∧ (i ≠ .emitRamp 0#8 → (∀ n, i ≠ .emitBlock n) → t.firstPending = s.firstPending)

/-! ### Immediate commands -/

/-- R198: the word 0 is NOP, and what its CMD write does in every state: dropped while BUSY = 1, refused while an error
stands, else complete with RESULT0 = RESULT1 = 0 and no other effect. -/
def Obligations.NopCompletes : Prop :=
  decode 0x00000000#32 = .ok .nop
    ∧ ∀ s : State, exec .nop s = .next
        (if s.busy = true then { s with overrun := true }
        else if s.err ≠ .none then { s with done := true }
        else { s with result0 := 0#32, result1 := 0#32, timeout := false, done := true })

/-- R117: COS in range gives `cosq(2*ARG0, ARG1)` in RESULT0, and out of range it is RANGE. -/
def Obligations.CosGivesTheCosineOrRange : Prop :=
  decode 0x00000001#32 = .ok .cos
    ∧ ∀ s : State, s.Ready → exec .cos s = .next
        (if 32767 < s.arg1.toNat ∨ s.cfgSampleRate.toNat < 2 * s.arg0.toNat then
          { s with
            result0 := 0#32, result1 := 0#32, timeout := false, err := .range, errPos := 0xFFFFFFFF#32, done := true }
        else
          { s with
            result0 := BitVec.ofNat 32 (cosq s.cfgSampleRate.toNat (2 * s.arg0.toNat) s.arg1.toNat), result1 := 0#32
            timeout := false, done := true })

/-- The cosine at its two ends and its bound: three of the range facts that 40_synthesis.md derives from R110. The first
and the last hold for every rate and amplitude. -/
def Obligations.CosineEndsAndBound : Prop :=
  ∀ fs y a : Nat,
    cosq fs 0 a = a ∧ (1 ≤ fs → a ≤ 32767 → cosq fs fs a = 0) ∧ cosq fs y a ≤ a

/-- The tone sample lies in [-a, a], is non-negative in the first half of the cycle and non-positive in the second, and is
0 at both zero crossings: what 40_synthesis.md derives of the sample that R113 defines. -/
def Obligations.ToneSampleIsSineShaped : Prop :=
  ∀ fs p a : Nat, 1 ≤ fs → a ≤ 32767 →
    -(a : Int) ≤ toneSample fs p a ∧ toneSample fs p a ≤ a ∧ (p < 2 * fs → 0 ≤ toneSample fs p a)
      ∧ (2 * fs ≤ p → toneSample fs p a ≤ 0) ∧ toneSample fs 0 a = 0 ∧ toneSample fs (2 * fs) a = 0

/-- R196: SEQ_INIT starts the sequence at SEQ_FIRST. -/
def Obligations.SeqInitStartsTheSequence : Prop :=
  decode 0x00000010#32 = .ok .seqInit
    ∧ ∀ s : State, s.Ready →
        exec .seqInit s = .next { s with
          expected := s.seqFirst, final := false, result0 := s.seqFirst.setWidth 32, result1 := 0#32, timeout := false
          done := true }

/-- R197: SEQ_CHECK of the number `n`, branch by branch in the order of its pseudocode; R220 for the error. -/
def Obligations.SeqCheckFollowsThePolicy : Prop :=
  ∀ n : Byte, decode (0#16 ++ n ++ 0x11#8) = .ok (.seqCheck n)
    ∧ ∀ s : State, s.Ready →
        let accepted : State := { s with
          result0 := n.setWidth 32, result1 := s.expected.setWidth 32, timeout := false, done := true }
        let rejected : State := { accepted with err := .sequence, errPos := 0xFFFFFFFF#32 }
        exec (.seqCheck n) s = .next
          (if s.passthrough = true then accepted
          else if s.final = true then rejected
          else if n = 0xFF#8 then { accepted with final := true }
          else if n = s.expected then { accepted with expected := BitVec.ofNat 8 ((s.expected.toNat + 1) % 256) }
          else rejected)

/-! ### Starting a stream command -/

/-- R223: what EMIT_BIT, EMIT_BYTE, NEXT_EDGE, ACQUIRE_SYNC, DECODE_BLOCK and, with a valid baseline, DECODE_BIT and
DECODE_BYTE do in the CMD write's step: BUSY becomes 1, with the command before its first transfer, and nothing else
changes. The stored task is the model's form of the running command (log 3). -/
def Obligations.StreamCommandStartsBusy : Prop :=
  ∀ (s : State) (imm b : Byte) (v : BitValue), s.Ready →
    (bitValueOfCode? imm = some v → exec (.emitBit imm) s = .next { s with task := some (.emit (.bit v) 0) })
      ∧ exec (.emitByte b) s = .next { s with task := some (.emit (.byte b 0) 0) }
      ∧ exec .nextEdge s = .next { s with task := some (.receive 0 .report) }
      ∧ exec .acquireSync s = .next { s with task := some (.receive 0 (.sync false ⟨0, 0, 0, none⟩)) }
      ∧ exec .decodeBlock s = .next { s with task := some (.receive 0 (.sync true ⟨0, 0, 0, none⟩)) }
      ∧ (s.baselineValid = true → exec .decodeBit s = .next { s with task := some (.receive 0 (.first .bit)) })
      ∧ (s.baselineValid = true →
          exec .decodeByte s = .next { s with task := some (.receive 0 (.first (.byte 0 0#8))) })

/-- R131, R129: EMIT_BLOCK reads FIRST_PENDING and clears it in the CMD write's step; its preamble is LEADIN cycles for a
first block and 160 for a later one, and with LEADIN = 0 the TERMINATOR comes first. The stored task is the model's (log
3). -/
def Obligations.EmitBlockTakesTheFirstBlockFlag : Prop :=
  ∀ (s : State) (num : Byte), s.Ready →
    (s.firstPending = false →
        exec (.emitBlock num) s = .next { s with task := some (.emit (.preamble num 160) 0) })
      ∧ (s.firstPending = true → s.cfgLeadin ≠ 0#32 →
        exec (.emitBlock num) s = .next
          { s with firstPending := false, task := some (.emit (.preamble num s.cfgLeadin.toNat) 0) })
      ∧ (s.firstPending = true → s.cfgLeadin = 0#32 →
        exec (.emitBlock num) s = .next { s with firstPending := false, task := some (.emit (.mark num) 0) })

/-- R133: EMIT_RAMP UP opens a transmission and DOWN starts closing it; the other two cases are TX_STATE. The stored task is
the model's (log 3). -/
def Obligations.EmitRampBracketsATransmission : Prop :=
  ∀ s : State, s.Ready →
    let txState : State := { s with
      result0 := 0#32, result1 := 0#32, timeout := false, err := .txState, errPos := 0xFFFFFFFF#32, done := true }
    (s.txActive = false → exec (.emitRamp 0#8) s = .next
        { s with phase := 0#32, txActive := true, firstPending := true, task := some (.emit (.ramp .up 0) 0) })
      ∧ (s.txActive = true → exec (.emitRamp 0#8) s = .next txState)
      ∧ (s.txActive = true → exec (.emitRamp 1#8) s = .next { s with task := some (.emit (.ramp .down 0) 0) })
      ∧ (s.txActive = false → exec (.emitRamp 1#8) s = .next txState)

/-- R180, R182, R221: DECODE_BIT and DECODE_BYTE without a baseline raise NO_BASELINE. -/
def Obligations.DecodeWithoutBaselineRaises : Prop :=
  ∀ s : State, s.Ready → s.baselineValid = false →
    let raised : State := { s with
      result0 := 0#32, result1 := 0#32, timeout := false, err := .noBaseline, errPos := 0xFFFFFFFF#32, done := true }
    exec .decodeBit s = .next raised ∧ exec .decodeByte s = .next raised

/-! ### The Modulator

A run is the CMD write and then engine steps, the host and the streams' other ends leaving the block alone: `moves` is
empty and the sink has the room (log 1, log 2). -/

/-- R115, R125, R126: EMIT_BIT run to its end pushes exactly one cycle of its tone, `ceil((4*fs - P)/inc)` samples from
PHASE on, carries the residue, and gives their number in RESULT0. Nothing else changes. The number of samples is an
inference of 40_synthesis.md; the run is the model's (log 1, log 2). -/
def Obligations.EmitBitSendsOneCycle : Prop :=
  ∀ (s : State) (imm : Byte) (v : BitValue), bitValueOfCode? imm = some v → s.Ready → s.cfgLegal = true →
    s.phaseLegal = true → s.moves = [] →
      let fs := s.cfgSampleRate.toNat
      let inc := toneIncrement s.cfgBaseFreq.toNat v
      let xs := cycleSamples fs inc (fun _ => s.cfgAmplitude.toNat) s.phase.toNat
      xs.length ≤ s.sinkRoom →
        s.runCommand (.emitBit imm) xs.length = .next
          { s.emitted xs (cycleEnd fs inc s.phase.toNat) (BitVec.ofNat 32 xs.length) 0#32 with response := .ack }

/-- R127, R93, R128: EMIT_BYTE run to its end pushes the samples of its byte's ByteFrame, phase-continuous, and gives their
number in RESULT0. Nothing else changes. The run is the model's (log 1, log 2). -/
def Obligations.EmitByteSendsItsByteFrame : Prop :=
  ∀ (s : State) (b : Byte), s.Ready → s.cfgLegal = true → s.phaseLegal = true → s.moves = [] →
    let xs := s.tones (byteFrame b)
    xs.length ≤ s.sinkRoom →
      s.runCommand (.emitByte b) xs.length = .next
        { s.emitted xs (toneEnd s.cfgSampleRate.toNat s.cfgBaseFreq.toNat s.phase.toNat (byteFrame b))
            (BitVec.ofNat 32 xs.length) 0#32 with response := .ack }

/-- R129, R94, R95, R130: EMIT_BLOCK run to its end pushes the samples of the block frame of its number and of
`Buf[0..127]` (an unwritten byte being its power-on draw, log 4), with the preamble FIRST_PENDING selects, clears FIRST_PENDING,
and gives the samples' number and the checksum. A number of 2^32 or more is a free value (log 17); the run is the model's
(log 1, log 2). -/
def Obligations.EmitBlockSendsItsBlockFrame : Prop :=
  ∀ (s : State) (num : Byte), s.Ready → s.cfgLegal = true → s.phaseLegal = true → s.moves = [] →
    let vs := blockFrame s.preambleLength num s.payload
    let xs := s.tones vs
    xs.length ≤ s.sinkRoom →
      s.runCommand (.emitBlock num) xs.length = .next
        { s.emitted xs (toneEnd s.cfgSampleRate.toNat s.cfgBaseFreq.toNat s.phase.toNat vs) (resultWord xs.length)
            ((checksum s.payload).setWidth 32) with firstPending := false, response := .ack }

/-- R132, R133: EMIT_RAMP run to its end pushes two ONE cycles under the envelope; UP starts at phase 0 and leaves
TX_ACTIVE and FIRST_PENDING set, DOWN starts at PHASE and leaves TX_ACTIVE clear. The run is the model's (log 1, log 2).
-/
def Obligations.EmitRampSendsTwoCycles : Prop :=
  ∀ (s : State) (dir : Direction), s.Ready → s.cfgLegal = true → s.phaseLegal = true → s.moves = [] →
    s.txActive = decide (dir = .down) →
      let fs := s.cfgSampleRate.toNat
      let inc := 8 * s.cfgBaseFreq.toNat
      let p0 := if dir = .up then 0 else s.phase.toNat
      let p1 := cycleEnd fs inc p0
      let xs := cycleSamples fs inc (rampAmp fs s.cfgAmplitude.toNat dir 0) p0
        ++ cycleSamples fs inc (rampAmp fs s.cfgAmplitude.toNat dir 1) p1
      xs.length ≤ s.sinkRoom →
        s.runCommand (.emitRamp (if dir = .up then 0#8 else 1#8)) xs.length = .next
          { s.emitted xs (cycleEnd fs inc p1) (BitVec.ofNat 32 xs.length) 0#32 with
            txActive := decide (dir = .up), firstPending := s.firstPending || decide (dir = .up)
            response := .ack }

/-! ### The EdgeDetector -/

/-- R145, R147, R150: NEXT_EDGE on samples of the sign of PREV_SAMPLE and then one of the other sign, within `N_E`
samples: RESULT0 is the corrected duration, RESULT1 the number of samples, and EDGE_STATE takes the last sample and its
correction. Nothing else changes. The run is the model's (log 1, log 2). -/
def Obligations.NextEdgeMeasuresAnEdge : Prop :=
  ∀ (s : State) (xs : List Sample) (y : Sample) (rest : List Sample), s.Ready → s.cfgLegal = true → s.moves = [] →
    s.source = xs ++ y :: rest → sameSign s.prevSample xs = true → neg y.toInt ≠ neg s.prevSample.toInt →
    xs.length + 1 ≤ s.cfgSampleRate.toNat / 128 + 1 →
      let last := lastSample s.prevSample xs
      let c := neg (last.toInt + y.toInt) != neg y.toInt
      s.runCommand .nextEdge (xs.length + 1) = .next { s with
        source := rest, prevSample := y, prevHalf := c
        result0 := BitVec.ofNat 32
          ((xs.length + 1) * 128 + (if c then 64 else 0) - (if s.prevHalf then 64 else 0))
        result1 := BitVec.ofNat 32 (xs.length + 1), timeout := false, done := true, response := .ack }

/-- R148, R150: NEXT_EDGE on `N_E = fs div 128 + 1` samples of the sign of PREV_SAMPLE is the timeout outcome: RESULT0 =
`N_E*K`, RESULT1 = `N_E`, TIMEOUT = 1, no error, and PREV_OFFSET becomes 0. The run is the model's (log 1, log 2). -/
def Obligations.NextEdgeTimesOutInSilence : Prop :=
  ∀ (s : State) (xs rest : List Sample), s.Ready → s.cfgLegal = true → s.moves = [] → s.source = xs ++ rest →
    sameSign s.prevSample xs = true → xs.length = s.cfgSampleRate.toNat / 128 + 1 →
      s.runCommand .nextEdge xs.length = .next { s with
        source := rest, prevSample := lastSample s.prevSample xs, prevHalf := false
        result0 := BitVec.ofNat 32 (xs.length * 128), result1 := BitVec.ofNat 32 xs.length, timeout := true
        done := true, response := .ack }

/-- R145, R147, R148: whatever command called `edge()`, the samples of the source give it the outcome in the step of the
last of them: `Edge(d, n)` at the first sign change within `N_E` samples, and `Timeout(N_E*K, N_E)` with PREV_OFFSET = 0
after `N_E = fs div 128 + 1` samples without one. The engine takes one step per sample (R255). The consumers `onEdge` are
the model's form of the pseudocode (log 3), and the engine's turns and the source's list are the model's (log 1, log 2). -/
def Obligations.EdgeReachesItsConsumer : Prop :=
  ∀ (s : State) (use : EdgeUse) (xs rest : List Sample), s.task = some (.receive 0 use) → s.moves = [] →
    sameSign s.prevSample xs = true →
      (∀ y : Sample, s.source = xs ++ y :: rest → neg y.toInt ≠ neg s.prevSample.toInt →
        xs.length + 1 ≤ s.cfgSampleRate.toNat / 128 + 1 →
          let c := edgeCorrected (lastSample s.prevSample xs) y
          Sys2Proof.core.run (xs.length + 1) s = .next
            (onEdge { s with source := rest, prevSample := y, prevHalf := c } use
              (.edge ((xs.length + 1) * 128 + (if c then 64 else 0) - (if s.prevHalf then 64 else 0)) (xs.length + 1))))
      ∧ (s.source = xs ++ rest → xs.length = s.cfgSampleRate.toNat / 128 + 1 →
          Sys2Proof.core.run xs.length s = .next
            (onEdge { s with source := rest, prevSample := lastSample s.prevSample xs, prevHalf := false } use
              (.timeout (xs.length * 128) xs.length)))

/-! ### The CarrierSynchronizer -/

/-- R160 to R167: one edge of an acquisition, case by case: the budget, silence, consistency, the transition with a
candidate in range, the confirm edge, and the reset of the run on every failure. `forBlock` tells DECODE_BLOCK's
acquisition (true) from ACQUIRE_SYNC's. R168, R183, R184: what a spent budget and an acquired baseline write, and that
DECODE_BLOCK goes on to the block number. The accumulator in the task is the model's form of the transient registers (log
3). In states outside the invariant, a baseline that needs more than 32 bits is truncated (log 12) and a result that does is
a free value (log 17). -/
def Obligations.AcquisitionTakesOneEdge : Prop :=
  ∀ (s : State) (forBlock : Bool) (acc : SyncAcc) (e : EdgeOutcome),
    let tot := acc.tot + e.dur
    let x := acc.count * e.dur
    let avg := (2 * acc.sum + acc.count) / (2 * acc.count)
    let go : SyncAcc → State := fun acc' => { s with task := some (.receive 0 (.sync forBlock acc')) }
    let restart : State := go { count := 0, sum := 0, tot := tot, confirm := none }
    onEdge s (.sync forBlock acc) e =
      if 3 * s.cfgSampleRate.toNat * 128 < tot then
        { s with result0 := 0#32, result1 := resultWord tot, timeout := true, task := none, done := true }
      else if e.isTimeout = true then restart
      else
        match acc.confirm with
        | none =>
          if 3 * acc.sum ≤ 4 * x ∧ 4 * x ≤ 5 * acc.sum then
            go { count := acc.count + 1, sum := acc.sum + e.dur, tot := tot, confirm := none }
          else if 32 < acc.count ∧ 4 * acc.sum ≤ 3 * x ∧ 3 * x ≤ 8 * acc.sum ∧ 256 ≤ avg ∧ avg ≤ 8192 then
            go { count := acc.count, sum := acc.sum, tot := tot, confirm := some avg }
          else restart
        | some b =>
          if 4 * b ≤ 3 * e.dur ∧ 3 * e.dur ≤ 8 * b then
            { s with
              baseline := BitVec.ofNat 32 b, baselineValid := true
              task := if forBlock then some (.receive 0 (.first (.block 0 0#8 0#8 0 0#8))) else none
              result0 := if forBlock then s.result0 else resultWord b
              result1 := if forBlock then s.result1 else resultWord tot
              timeout := if forBlock then s.timeout else false
              done := if forBlock then s.done else true }
          else restart

/-- On a source that keeps offering samples ACQUIRE_SYNC completes within `3*fs + N_E` samples, and never with an error:
what 43_synchronizer.md derives of its budget ("ACQUIRE_SYNC pulls at most `3*fs + N_E` samples before it returns"). The
run is the model's (log 1, log 2). -/
def Obligations.AcquisitionEndsWithinItsBudget : Prop :=
  ∀ s : State, s.Ready → s.moves = [] →
    3 * s.cfgSampleRate.toNat + (s.cfgSampleRate.toNat / 128 + 1) ≤ s.source.length →
      ∃ k t, k ≤ 3 * s.cfgSampleRate.toNat + (s.cfgSampleRate.toNat / 128 + 1)
        ∧ s.runCommand .acquireSync k = .next t ∧ t.busy = false ∧ t.err = .none ∧ t.done = true
        ∧ t.source = s.source.drop k

/-! ### The Demodulator -/

/-- R175, R176, R179, R180: DECODE_BIT run over two half-cycles of the source, the first of duration `f` inside the sanity
window: RESULT0 is the code of the class of `(f, g)` by the bands in 24ths of B, and a pair in no band is DECODE with `f`
and `g`. The run is the model's (log 1, log 2). -/
def Obligations.DecodeBitClassifiesTwoHalfCycles : Prop :=
  ∀ (s : State) (xs : List Sample) (y : Sample) (xs' : List Sample) (y' : Sample) (rest : List Sample),
    s.Ready → s.cfgLegal = true → s.moves = [] → s.baselineValid = true →
    s.source = xs ++ y :: (xs' ++ y' :: rest) →
    sameSign s.prevSample xs = true → neg y.toInt ≠ neg s.prevSample.toInt →
    xs.length + 1 ≤ s.cfgSampleRate.toNat / 128 + 1 →
    sameSign y xs' = true → neg y'.toInt ≠ neg y.toInt → xs'.length + 1 ≤ s.cfgSampleRate.toNat / 128 + 1 →
      let c := edgeCorrected (lastSample s.prevSample xs) y
      let c' := edgeCorrected (lastSample y xs') y'
      let f := (xs.length + 1) * 128 + (if c then 64 else 0) - (if s.prevHalf then 64 else 0)
      let g := (xs'.length + 1) * 128 + (if c' then 64 else 0) - (if c then 64 else 0)
      let b := s.baseline.toNat
      let ended : State := { s with
        source := rest, prevSample := y', prevHalf := c', result1 := 0#32, timeout := false, done := true
        response := .ack }
      9 * b ≤ 24 * f → 24 * f ≤ 64 * b →
        s.runCommand .decodeBit (xs.length + 1 + (xs'.length + 1)) = .next
          (if 24 * f ≤ 15 * b ∧ 8 * b ≤ 24 * g ∧ 24 * g < 16 * b then { ended with result0 := 0#32 }
          else if 18 * b ≤ 24 * f ∧ 24 * f ≤ 30 * b ∧ 16 * b ≤ 24 * g ∧ 24 * g < 32 * b then
            { ended with result0 := 1#32 }
          else if 36 * b ≤ 24 * f ∧ 24 * f ≤ 60 * b ∧ 32 * b ≤ 24 * g then { ended with result0 := 2#32 }
          else { ended with
            result0 := BitVec.ofNat 32 f, result1 := BitVec.ofNat 32 g, err := .decode, errPos := 0xFFFFFFFF#32 })

/-- R177, R178, R35, R226: the first edge of a bit, in whatever command: a timeout and a duration outside the sanity window
are DECODE at once, with the frame position in DECODE_BLOCK; inside it the second edge is awaited. Under an error that stands
already, ERR and ERR_POS stay and the results are written. The task is the model's (log 3). -/
def Obligations.FirstHalfCycleIsChecked : Prop :=
  ∀ (s : State) (use : BitUse) (d n : Nat), d < 2 ^ 32 →
    onEdge s (.first use) (.timeout d n) = s.aborted .decode 0xFFFFFFFF#32 0#32 use.framePos
      ∧ onEdge s (.first use) (.edge d n)
        = (if 9 * s.baseline.toNat ≤ 24 * d ∧ 24 * d ≤ 64 * s.baseline.toNat then
            { s with task := some (.receive 0 (.second d use)) }
          else s.aborted .decode (BitVec.ofNat 32 d) 0#32 use.framePos)

/-- R178, R179, R186: a second edge that times out, in whatever command. If the first half-cycle is in TERMINATOR's band it
does what a second half-cycle of any duration `g` with `32*B <= 24*g` does: it completes DECODE_BIT with the code 2 (R180),
as a ninth bit DECODE_BYTE with its byte (R181, R182), and as the last bit of a block DECODE_BLOCK with its number and
checksum, or CHECKSUM at position 129 (R183, R185). Every other first half-cycle is DECODE with RESULT1 = 0xFFFFFFFF, at the
frame position in DECODE_BLOCK (R35). Under an error that stands already, ERR and ERR_POS stay (R226). The task is the
model's (log 3). -/
def Obligations.SecondEdgeTimeoutIsATerminator : Prop :=
  ∀ (s : State) (f d n : Nat), f < 2 ^ 32 →
    let b := s.baseline.toNat
    (¬ (36 * b ≤ 24 * f ∧ 24 * f ≤ 60 * b) → ∀ use : BitUse,
        onEdge s (.second f use) (.timeout d n)
          = s.aborted .decode (BitVec.ofNat 32 f) 0xFFFFFFFF#32 use.framePos)
      ∧ (36 * b ≤ 24 * f → 24 * f ≤ 60 * b →
        onEdge s (.second f .bit) (.timeout d n) = s.completed 2#32 0#32
          ∧ (∀ v, onEdge s (.second f (.byte 8 v)) (.timeout d n) = s.completed (v.setWidth 32) 0#32)
          ∧ (∀ num cs v, onEdge s (.second f (.block 129 num cs 8 v)) (.timeout d n)
              = if v = cs then s.completed (num.setWidth 32) (cs.setWidth 32)
                else s.aborted .checksum (v.setWidth 32) (cs.setWidth 32) (some 129))
          ∧ ∀ (use : BitUse) (g m : Nat), 32 * b ≤ 24 * g →
              onEdge s (.second f use) (.timeout d n) = onEdge s (.second f use) (.edge g m))

/-- R179, R181, R217, R218, R35, R183, R226: the errors of a second half-cycle. A pair `(f, g)` in no band (R175) is DECODE
with `f` and `g`, in whatever command. A pair of class `b` inside a byte: TERMINATOR among the eight data bits is FRAMING
with the bit index and the bits before it, anything else as the ninth bit is SYNC_LOSS with its code and the byte. Each is
raised at the frame position in DECODE_BLOCK, and under an error that stands already ERR and ERR_POS stay. The task is the
model's (log 3). -/
def Obligations.ByteFrameErrorsAreRaised : Prop :=
  ∀ (s : State) (f : Nat),
    let b := s.baseline.toNat
    (∀ (use : BitUse) (g n : Nat), f < 2 ^ 32 → g < 2 ^ 32 →
        ¬ (9 * b ≤ 24 * f ∧ 24 * f ≤ 15 * b ∧ 8 * b ≤ 24 * g ∧ 24 * g < 16 * b) →
        ¬ (18 * b ≤ 24 * f ∧ 24 * f ≤ 30 * b ∧ 16 * b ≤ 24 * g ∧ 24 * g < 32 * b) →
        ¬ (36 * b ≤ 24 * f ∧ 24 * f ≤ 60 * b ∧ 32 * b ≤ 24 * g) →
          onEdge s (.second f use) (.edge g n)
            = s.aborted .decode (BitVec.ofNat 32 f) (BitVec.ofNat 32 g) use.framePos)
      ∧ ∀ (i : Nat) (v num cs : Byte) (pos : Nat) (e : EdgeOutcome) (c : BitValue),
          classify b f (secondHalf e) = some c → ∀ use ∈ [BitUse.byte i v, BitUse.block pos num cs i v],
            (i < 8 → c = .terminator →
              onEdge s (.second f use) e
                = s.aborted .framing (BitVec.ofNat 32 i) (v.setWidth 32) use.framePos)
            ∧ (i = 8 → c ≠ .terminator →
              onEdge s (.second f use) e
                = s.aborted .syncLoss (BitVec.ofNat 32 (bitValueCode c)) (v.setWidth 32) use.framePos)

/-- R181, R182, R93: DECODE_BYTE on pairs of edges that carry the ByteFrame of `b` completes with `b` in RESULT0. Nothing
else changes. Feeding the edges to the waiting task is the model's form of the pseudocode (log 3). -/
def Obligations.DecodeByteReadsItsByteFrame : Prop :=
  ∀ (s : State) (n : Nat) (b : Byte) (es : List (EdgeOutcome × EdgeOutcome)),
    s.task = some (.receive n (.first (.byte 0 0#8))) → carries s.baseline.toNat (byteFrame b) es = true →
      feedPairs s es = s.completed (b.setWidth 32) 0#32

/-- R183, R184, R185, R94, R95, R226: after its acquisition, DECODE_BLOCK on pairs of edges that carry a number, 128 payload
bytes and a checksum byte `c`: the payload is in Buf; if `c` is the sum mod 256 it completes with the number and the
checksum, else it raises CHECKSUM with the received and the computed sum at frame position 129, ERR and ERR_POS staying
under an error that stands already. Nothing else changes. Feeding the edges to the waiting task is the model's form of the
pseudocode (log 3). -/
def Obligations.DecodeBlockDeliversItsBlock : Prop :=
  ∀ (s : State) (n : Nat) (num c : Byte) (payload : List Byte) (es : List (EdgeOutcome × EdgeOutcome)),
    s.task = some (.receive n (.first (.block 0 0#8 0#8 0 0#8))) → payload.length = 128 →
    carries s.baseline.toNat (byteFrame num ++ payload.flatMap byteFrame ++ byteFrame c) es = true →
      let stored := s.storePayload 0 payload
      feedPairs s es
          = (if c = checksum payload then stored.completed (num.setWidth 32) (c.setWidth 32)
            else stored.aborted .checksum (c.setWidth 32) ((checksum payload).setWidth 32) (some 129))
        ∧ ∀ i (h : i < payload.length), stored.buf i = payload[i]

/-! ### The engine's steps -/

/-- R67, R68: with the sink not ready a Push waits, and with no sample offered a Pull waits: the step changes nothing but
the list of moves (log 1, log 2). -/
def Obligations.EngineWaitsForTheStreams : Prop :=
  ∀ s : State, s.EngineNext →
    (∃ pos n, s.task = some (.emit pos n) ∧ s.sinkRoom = 0) ∨ (∃ n use, s.task = some (.receive n use) ∧ s.source = []) →
      step s = .next { s with moves := s.moves.tail }

/-- R255, R113, R115: an engine step of an EMIT command with the sink ready pushes exactly the tone sample at PHASE, and one
of a receive command with a sample offered takes exactly that sample (the streams' fields are the model's, log 2). -/
def Obligations.EngineStepMovesOneSample : Prop :=
  ∀ s t : State, s.EngineNext → step s = .next t →
    (∀ pos n, s.task = some (.emit pos n) → 0 < s.sinkRoom →
        t.pushed = s.pushed ++ [BitVec.ofInt 16 (toneSample s.cfgSampleRate.toNat s.phase.toNat
            (emitAmp s.cfgSampleRate.toNat s.cfgAmplitude.toNat s.phase.toNat pos))]
          ∧ t.sinkRoom + 1 = s.sinkRoom ∧ t.source = s.source)
      ∧ (∀ n use x rest, s.task = some (.receive n use) → s.source = x :: rest →
        t.source = rest ∧ t.prevSample = x ∧ t.pushed = s.pushed ∧ t.sinkRoom = s.sinkRoom)

/-- What 70_reset_and_hazards.md derives of the two directions (R252: "EMIT commands touch neither EDGE_STATE nor BASELINE, and
receive commands do not touch PHASE"), with what other rules say of the engine's steps: one of an EMIT command stores
nothing (R63), one of a receive command leaves TX_ACTIVE (R27), and neither touches ARG0 and ARG1 (R33), the configuration
(R36 to R40: the host writes it), FIRST_PENDING, which the CMD write's step has settled (R131), SEQ_STATE (R44) or OVERRUN
(R30). The response port and the counters of draws are the model's (log 4, log 5, log 7). -/
def Obligations.EngineStepFrame : Prop :=
  ∀ s t : State, s.EngineNext → step s = .next t →
    t.arg0 = s.arg0 ∧ t.arg1 = s.arg1 ∧ t.cfgSampleRate = s.cfgSampleRate ∧ t.cfgBaseFreq = s.cfgBaseFreq
      ∧ t.cfgAmplitude = s.cfgAmplitude ∧ t.cfgLeadin = s.cfgLeadin ∧ t.passthrough = s.passthrough
      ∧ t.seqFirst = s.seqFirst ∧ t.expected = s.expected ∧ t.final = s.final ∧ t.overrun = s.overrun
      ∧ t.firstPending = s.firstPending ∧ t.response = s.response ∧ t.powerOns = s.powerOns ∧ t.draws = s.draws
      ∧ (∀ pos n, s.task = some (.emit pos n) →
          t.prevSample = s.prevSample ∧ t.prevHalf = s.prevHalf ∧ t.baseline = s.baseline
            ∧ t.baselineValid = s.baselineValid ∧ (∀ a, t.readByte a = s.readByte a))
      ∧ (∀ n use, s.task = some (.receive n use) → t.phase = s.phase ∧ t.txActive = s.txActive)

/-- R63, R184: an engine step leaves every byte of memory as it was, but for one: where a DECODE_BLOCK is reading the second
edge of the ninth bit of frame position `pos`, 1 to 128, the byte `Buf[pos - 1]` may become the decoded byte, the eight data
bits `v` read before it. The counters in the task are the model's (log 3). -/
def Obligations.EngineStoresOnlyTheDecodedByte : Prop :=
  ∀ (s t : State) (a : Nat), s.Inv → s.EngineNext → step s = .next t →
    t.readByte a = s.readByte a
      ∨ ∃ n f pos num cs v, s.task = some (.receive n (.second f (.block pos num cs 8 v))) ∧ 1 ≤ pos ∧ pos ≤ 128
          ∧ a = bufOffset (pos - 1) ∧ t.readByte a = v

/-- R34, R70, R25: while a command runs on, DONE, RESULT0, RESULT1, TIMEOUT, ERR and ERR_POS stand; the engine step that ends
it sets DONE. -/
def Obligations.ResultsAreWrittenAtTheEnd : Prop :=
  ∀ s t : State, s.EngineNext → s.busy = true → step s = .next t →
    (t.busy = true → t.done = s.done ∧ t.result0 = s.result0 ∧ t.result1 = s.result1 ∧ t.timeout = s.timeout
        ∧ t.err = s.err ∧ t.errPos = s.errPos)
      ∧ (t.busy = false → t.done = true)

/-! ### The host port -/

/-- R52, R53, R57, R59, R60: the accesses that get a bus error, and that they change nothing: an offset below 0x100 that is
no register's or is not accessed 4 bytes wide, a misaligned buffer access, a buffer access while BUSY = 1, and an offset of
0x180 or more. -/
def Obligations.BusErrorChangesNothing : Prop :=
  ∀ (s : State) (a : Access) (addr : BitVec 12) (size : AccessSize) (rest : List Move),
    s.moves = .host a :: rest → (a = .read addr size ∨ ∃ v, a = .write addr size v) →
    ((addr.toNat < 0x100 ∧ ¬ (size = .word ∧ addr.toNat ∈ registerOffsets))
      ∨ (0x100 ≤ addr.toNat ∧ addr.toNat < 0x180 ∧ (addr.toNat % size.bytes ≠ 0 ∨ s.busy = true))
      ∨ 0x180 ≤ addr.toNat) →
      step s = .next { s with moves := rest, response := .busError }

/-- R61: every read is free of side effects: it changes only the answer on the port (and, for an unspecified value, the
model's counter of draws, log 5). -/
def Obligations.ReadsHaveNoSideEffects : Prop :=
  ∀ (s : State) (addr : BitVec 12) (size : AccessSize) (rest : List Move),
    s.moves = .host (.read addr size) :: rest →
      ∃ r d, step s = .next { s with moves := rest, response := r, draws := d }
        ∧ (s.busy = false → d = s.draws)

/-- R54: a 4-byte write to a read-only register completes and changes nothing, and CTRL and CMD read 0. -/
def Obligations.ReadOnlyAndWriteOnlyRegisters : Prop :=
  ∀ (s : State) (addr : BitVec 12) (v : Word) (rest : List Move),
    (s.moves = .host (.write addr .word v) :: rest →
        addr.toNat ∈ [0x000, 0x018, 0x01C, 0x020, 0x080, 0x084, 0x088, 0x08C] →
          step s = .next { s with moves := rest, response := .ack })
      ∧ (s.moves = .host (.read addr .word) :: rest → addr.toNat ∈ [0x004, 0x00C] →
          step s = .next { s with moves := rest, response := .data 0#32 })

/-- R21, R33 to R44, R64: what the host reads in each register but STATUS: its value at any time, but PHASE, EDGE_STATE and
BASELINE only while BUSY = 0; and ARG0 and ARG1 hold every bit written, at any time. -/
def Obligations.RegistersReadTheirValues : Prop :=
  ∀ (s : State) (addr : BitVec 12) (v : Word) (rest : List Move),
    (s.moves = .host (.read addr .word) :: rest →
        (addr.toNat, v) ∈ [(0x000, 0x4B430001#32), (0x010, s.arg0), (0x014, s.arg1), (0x018, s.result0),
            (0x01C, s.result1), (0x020, s.errPos), (0x040, s.cfgSampleRate), (0x044, s.cfgBaseFreq),
            (0x048, s.cfgAmplitude), (0x04C, s.cfgLeadin),
            (0x050, 0#16 ++ s.seqFirst ++ 0#7 ++ BitVec.ofBool s.passthrough),
            (0x08C, 0#23 ++ BitVec.ofBool s.final ++ s.expected)]
          ∨ (s.busy = false ∧ (addr.toNat, v) ∈ [(0x080, s.phase),
            (0x084, (if s.prevHalf then 64#16 else 0#16) ++ s.prevSample), (0x088, s.baseline)]) →
        step s = .next { s with moves := rest, response := .data v })
      ∧ (s.moves = .host (.write 0x010#12 .word v) :: rest →
        step s = .next { s with moves := rest, response := .ack, arg0 := v })
      ∧ (s.moves = .host (.write 0x014#12 .word v) :: rest →
        step s = .next { s with moves := rest, response := .ack, arg1 := v })

/-- R56, R57, R58: a buffer write of 1, 2 or 4 aligned bytes with BUSY = 0 and then a read of the same bytes gives the value
back, little-endian byte by byte, and every byte outside them reads as before. That a narrow write takes the low bits of the
32-bit data and a narrow read is zero-extended to 32 bits is the model's deduction (log 13). -/
def Obligations.BufferIsLittleEndian : Prop :=
  ∀ (s : State) (addr : BitVec 12) (size : AccessSize) (v : Word), s.busy = false →
    0x100 ≤ addr.toNat → addr.toNat < 0x180 → addr.toNat % size.bytes = 0 →
      let t := hostPort s (.write addr size v)
      (hostPort t (.read addr size)).response = .data (BitVec.ofNat 32 (v.toNat % 2 ^ (8 * size.bytes)))
        ∧ (∀ k, k < size.bytes → t.readByte (addr.toNat + k) = v.extractLsb' (8 * k) 8)
        ∧ (∀ a, (a < addr.toNat ∨ addr.toNat + size.bytes ≤ a) → t.readByte a = s.readByte a)

/-- R199, R200, R201, R202: the five configuration writes: locked, then illegal, then accepted with what accepting changes.
A refused write records its error only if none stands and changes nothing else. -/
def Obligations.ConfigurationWritesAreChecked : Prop :=
  ∀ (s : State) (v : Word) (rest : List Move),
    let s0 : State := { s with moves := rest, response := .ack }
    let refused : ErrCode → State := fun code => { s0 with
      err := if s.err = .none then code else s.err, errPos := if s.err = .none then 0xFFFFFFFF#32 else s.errPos }
    let checked : Prop → Prop → State → Prop := fun locked legal accepted =>
      (locked → step s = .next (refused .cfgLocked)) ∧ (¬ locked → ¬ legal → step s = .next (refused .cfgInvalid))
        ∧ (¬ locked → legal → step s = .next accepted)
    let toneLocked : Prop := s.busy = true ∨ s.txActive = true
    (s.moves = .host (.write 0x040#12 .word v) :: rest →
        checked toneLocked (16 * s.cfgBaseFreq.toNat ≤ v.toNat ∧ v.toNat ≤ 2 ^ 20)
          { s0 with cfgSampleRate := v, baselineValid := false, phase := 0#32 })
      ∧ (s.moves = .host (.write 0x044#12 .word v) :: rest →
        checked toneLocked (1 ≤ v.toNat ∧ 16 * v.toNat ≤ s.cfgSampleRate.toNat)
          { s0 with cfgBaseFreq := v, baselineValid := false })
      ∧ (s.moves = .host (.write 0x048#12 .word v) :: rest →
        checked toneLocked (v.toNat ≤ 32767) { s0 with cfgAmplitude := v })
      ∧ (s.moves = .host (.write 0x04C#12 .word v) :: rest →
        checked toneLocked (v.toNat ≤ 65535) { s0 with cfgLeadin := v })
      ∧ (s.moves = .host (.write 0x050#12 .word v) :: rest →
        checked (s.busy = true) True
          { s0 with passthrough := v.getLsbD 0, seqFirst := v.extractLsb' 8 8 })

/-- R203, R48: the soft reset, register by register: the configuration and the buffer are kept, SEQ_STATE.EXPECTED takes
SEQ_FIRST, and a running command is abandoned. -/
def Obligations.SoftResetKeepsTheConfiguration : Prop :=
  ∀ (s : State) (v : Word) (rest : List Move),
    s.moves = .host (.write 0x004#12 .word v) :: rest → v.getLsbD 0 = true →
      step s = .next
        { State.reset with
          cfgSampleRate := s.cfgSampleRate, cfgBaseFreq := s.cfgBaseFreq, cfgAmplitude := s.cfgAmplitude
          cfgLeadin := s.cfgLeadin, passthrough := s.passthrough, seqFirst := s.seqFirst, expected := s.seqFirst
          mem := s.mem, moves := rest, source := s.source, sinkRoom := s.sinkRoom, pushed := s.pushed
          response := .ack, powerOns := s.powerOns, draws := s.draws }

/-- R204: CLR_ERR without SOFT_RESET clears ERR and ERR_POS and nothing else. -/
def Obligations.ClearErrorReturnsFromAnError : Prop :=
  ∀ (s : State) (v : Word) (rest : List Move),
    s.moves = .host (.write 0x004#12 .word v) :: rest → v.getLsbD 0 = false → v.getLsbD 1 = true →
      step s = .next { s with moves := rest, response := .ack, err := .none, errPos := 0xFFFFFFFF#32 }

/-- R205: a STATUS write clears DONE by bit 1 and OVERRUN by bit 7 and changes nothing else. -/
def Obligations.StatusWriteClearsDoneAndOverrun : Prop :=
  ∀ (s : State) (v : Word) (rest : List Move), s.moves = .host (.write 0x008#12 .word v) :: rest →
    step s = .next { s with
      moves := rest, response := .ack, done := if v.getLsbD 1 then false else s.done
      overrun := if v.getLsbD 7 then false else s.overrun }

/-- R23, R64: the STATUS word the host reads, bit by bit; while BUSY = 1 bits 2 to 5 are unspecified and the others are
current. -/
def Obligations.StatusReadsItsFields : Prop :=
  ∀ (s : State) (rest : List Move), s.moves = .host (.read 0x008#12 .word) :: rest →
    ∃ (t : State) (w : Word), step s = .next t ∧ t.response = .data w
      ∧ w.getLsbD 0 = s.busy ∧ w.getLsbD 1 = s.done ∧ w.getLsbD 6 = false ∧ w.getLsbD 7 = s.overrun
      ∧ w.extractLsb' 8 4 = s.err.code ∧ w.extractLsb' 12 20 = 0#20
      ∧ (s.busy = false → w.getLsbD 2 = s.timeout ∧ w.getLsbD 3 = s.txActive ∧ w.getLsbD 4 = s.firstPending
          ∧ w.getLsbD 5 = s.baselineValid)

/-- R116, R59, R201, R30: no host access but a soft reset disturbs a running command: its place, PHASE, the configuration,
EDGE_STATE, BASELINE, the buffer, the streams and the results all stand. -/
def Obligations.HostAccessesDoNotDisturbACommand : Prop :=
  ∀ (s : State) (a : Access) (rest : List Move), s.moves = .host a :: rest → s.busy = true →
    (∀ v, a = .write 0x004#12 .word v → v.getLsbD 0 = false) →
      ∃ t, step s = .next t ∧ t.task = s.task ∧ t.phase = s.phase ∧ t.cfgSampleRate = s.cfgSampleRate
        ∧ t.cfgBaseFreq = s.cfgBaseFreq ∧ t.cfgAmplitude = s.cfgAmplitude ∧ t.cfgLeadin = s.cfgLeadin
        ∧ t.passthrough = s.passthrough ∧ t.seqFirst = s.seqFirst ∧ t.expected = s.expected ∧ t.final = s.final
        ∧ t.txActive = s.txActive ∧ t.firstPending = s.firstPending ∧ t.prevSample = s.prevSample
        ∧ t.prevHalf = s.prevHalf ∧ t.baseline = s.baseline ∧ t.baselineValid = s.baselineValid ∧ t.mem = s.mem
        ∧ t.powerOns = s.powerOns ∧ t.source = s.source ∧ t.sinkRoom = s.sinkRoom ∧ t.pushed = s.pushed
        ∧ t.result0 = s.result0 ∧ t.result1 = s.result1 ∧ t.timeout = s.timeout

/-! ### Resets -/

/-- R48: the power-on values, register by register. -/
def Obligations.ResetValuesAreTheSpecs : Prop :=
  let s := State.reset
  s.busy = false ∧ s.done = false ∧ s.timeout = false ∧ s.txActive = false ∧ s.firstPending = true
    ∧ s.baselineValid = false ∧ s.overrun = false ∧ s.err.code = 0#4 ∧ s.arg0 = 0#32 ∧ s.arg1 = 0#32
    ∧ s.result0 = 0#32 ∧ s.result1 = 0#32 ∧ s.errPos = 0xFFFFFFFF#32 ∧ s.cfgSampleRate = 48000#32
    ∧ s.cfgBaseFreq = 600#32 ∧ s.cfgAmplitude = 16384#32 ∧ s.cfgLeadin = 1200#32 ∧ s.cfgSeqWord = 0x00000100#32
    ∧ s.phase = 0#32 ∧ s.edgeStateWord = 0#32 ∧ s.baseline = 0#32 ∧ s.expected = 1#8 ∧ s.final = false
    ∧ s.statusWord = 0x00000010#32 ∧ s.seqStateWord = 0x00000001#32

/-- R241, R48, R49: power-on reset in any state: every register at its power-on value, no buffer byte written (each a new
draw), and the streams and the environment's moves as they were. That `rst` is one step (log 8), that the response port then
shows no answer (log 7), and the form of the draw, `bufDraw` of the next power-on (log 4), are the model's. -/
def Obligations.PowerOnResetsAllButTheStreams : Prop :=
  ∀ (s : State) (rest : List Move), s.moves = .powerOn :: rest →
    step s = .next { State.reset with
        moves := rest, source := s.source, sinkRoom := s.sinkRoom, pushed := s.pushed, powerOns := s.powerOns + 1
        draws := s.draws }
      ∧ ∀ t, step s = .next t → ∀ i, t.buf i = Config.bufDraw (s.powerOns + 1) i

/-! ### Whole-machine rules -/

/-- The block never stops: every step of every state answers a next state. This is the model's deduction (log 19) from R225
(an error completes its command), R60 (a bus error answers its access) and R67 and R68 (a stalled stream waits). -/
def Obligations.BlockNeverStops : Prop :=
  ∀ s : State, ∃ t, step s = .next t

/-- R226, R31: while an error stands, only CLR_ERR, a soft reset or a power-on reset changes ERR or ERR_POS. -/
def Obligations.FirstErrorWins : Prop :=
  ∀ s t : State, step s = .next t → s.err ≠ .none → (t.err ≠ s.err ∨ t.errPos ≠ s.errPos) →
    (∃ v, s.WritesNext 0x004#12 v ∧ (v.getLsbD 0 = true ∨ v.getLsbD 1 = true)) ∨ s.nextMove = some .powerOn

/-- R41: PHASE changes only in an engine step of an EMIT command, by EMIT_RAMP UP, by a write to CFG_SAMPLE_RATE, or by a
reset. -/
def Obligations.PhaseHasItsWriters : Prop :=
  ∀ s t : State, step s = .next t → t.phase ≠ s.phase →
    (s.EngineNext ∧ ∃ pos n, s.task = some (.emit pos n)) ∨ (∃ w, s.WritesNext cmdOffset w ∧ decode w = .ok (.emitRamp 0#8))
      ∨ (∃ v, s.WritesNext 0x040#12 v) ∨ (∃ v, s.WritesNext 0x004#12 v ∧ v.getLsbD 0 = true)
      ∨ s.nextMove = some .powerOn

/-- R42: EDGE_STATE changes only in an engine step of a receive command or by a reset. -/
def Obligations.EdgeStateHasItsWriters : Prop :=
  ∀ s t : State, step s = .next t → (t.prevSample ≠ s.prevSample ∨ t.prevHalf ≠ s.prevHalf) →
    (s.EngineNext ∧ ∃ n use, s.task = some (.receive n use)) ∨ (∃ v, s.WritesNext 0x004#12 v ∧ v.getLsbD 0 = true)
      ∨ s.nextMove = some .powerOn

/-- R43: BASELINE changes only in an engine step of an acquisition or by a reset. -/
def Obligations.BaselineHasItsWriters : Prop :=
  ∀ s t : State, step s = .next t → t.baseline ≠ s.baseline →
    (s.EngineNext ∧ ∃ n forBlock acc, s.task = some (.receive n (.sync forBlock acc)))
      ∨ (∃ v, s.WritesNext 0x004#12 v ∧ v.getLsbD 0 = true) ∨ s.nextMove = some .powerOn

/-- R44: SEQ_STATE changes only by SEQ_INIT, SEQ_CHECK and resets. -/
def Obligations.SequenceStateHasItsWriters : Prop :=
  ∀ s t : State, step s = .next t → (t.expected ≠ s.expected ∨ t.final ≠ s.final) →
    (∃ w i, s.WritesNext cmdOffset w ∧ decode w = .ok i ∧ (i = .seqInit ∨ ∃ n, i = .seqCheck n))
      ∨ (∃ v, s.WritesNext 0x004#12 v ∧ v.getLsbD 0 = true) ∨ s.nextMove = some .powerOn

/-- R41, R43, R35, R200, R45, R29, R161, R164: every step keeps the invariant: a legal configuration, `P < 4*fs`, a valid
baseline in range, ERR_POS at 0xFFFFFFFF without an error, the buffer's cells in canonical form, and a running command at a
place its pseudocode has (log 3). -/
def Obligations.StepKeepsTheInvariant : Prop :=
  ∀ s t : State, s.Inv → step s = .next t → t.Inv

/-- R48: the state after power-on reset meets the invariant. -/
def Obligations.ResetMeetsTheInvariant : Prop := State.reset.Inv
end

