-- ==== Sys2Proof/Laws/State.lean ====
section
/-!
SUPPORT. One lemma per field of the state for each named operation of Machine/Ops.lean, true by `rfl`, so that no proof
unfolds a record update.
-/

namespace Sys2Proof.Machine

variable (s : State)

/-! ### `State.drop` -/

@[simp] theorem State.drop_task : (s.drop).task = s.task := rfl
@[simp] theorem State.drop_done : (s.drop).done = s.done := rfl
@[simp] theorem State.drop_timeout : (s.drop).timeout = s.timeout := rfl
@[simp] theorem State.drop_txActive : (s.drop).txActive = s.txActive := rfl
@[simp] theorem State.drop_firstPending : (s.drop).firstPending = s.firstPending := rfl
@[simp] theorem State.drop_baselineValid : (s.drop).baselineValid = s.baselineValid := rfl
@[simp] theorem State.drop_overrun : (s.drop).overrun = true := rfl
@[simp] theorem State.drop_err : (s.drop).err = s.err := rfl
@[simp] theorem State.drop_arg0 : (s.drop).arg0 = s.arg0 := rfl
@[simp] theorem State.drop_arg1 : (s.drop).arg1 = s.arg1 := rfl
@[simp] theorem State.drop_result0 : (s.drop).result0 = s.result0 := rfl
@[simp] theorem State.drop_result1 : (s.drop).result1 = s.result1 := rfl
@[simp] theorem State.drop_errPos : (s.drop).errPos = s.errPos := rfl
@[simp] theorem State.drop_cfgSampleRate : (s.drop).cfgSampleRate = s.cfgSampleRate := rfl
@[simp] theorem State.drop_cfgBaseFreq : (s.drop).cfgBaseFreq = s.cfgBaseFreq := rfl
@[simp] theorem State.drop_cfgAmplitude : (s.drop).cfgAmplitude = s.cfgAmplitude := rfl
@[simp] theorem State.drop_cfgLeadin : (s.drop).cfgLeadin = s.cfgLeadin := rfl
@[simp] theorem State.drop_passthrough : (s.drop).passthrough = s.passthrough := rfl
@[simp] theorem State.drop_seqFirst : (s.drop).seqFirst = s.seqFirst := rfl
@[simp] theorem State.drop_phase : (s.drop).phase = s.phase := rfl
@[simp] theorem State.drop_prevSample : (s.drop).prevSample = s.prevSample := rfl
@[simp] theorem State.drop_prevHalf : (s.drop).prevHalf = s.prevHalf := rfl
@[simp] theorem State.drop_baseline : (s.drop).baseline = s.baseline := rfl
@[simp] theorem State.drop_expected : (s.drop).expected = s.expected := rfl
@[simp] theorem State.drop_final : (s.drop).final = s.final := rfl
@[simp] theorem State.drop_mem : (s.drop).mem = s.mem := rfl
@[simp] theorem State.drop_moves : (s.drop).moves = s.moves := rfl
@[simp] theorem State.drop_source : (s.drop).source = s.source := rfl
@[simp] theorem State.drop_sinkRoom : (s.drop).sinkRoom = s.sinkRoom := rfl
@[simp] theorem State.drop_pushed : (s.drop).pushed = s.pushed := rfl
@[simp] theorem State.drop_response : (s.drop).response = s.response := rfl
@[simp] theorem State.drop_powerOns : (s.drop).powerOns = s.powerOns := rfl
@[simp] theorem State.drop_draws : (s.drop).draws = s.draws := rfl

/-! ### `State.refuse` -/

@[simp] theorem State.refuse_task : (s.refuse).task = s.task := rfl
@[simp] theorem State.refuse_done : (s.refuse).done = true := rfl
@[simp] theorem State.refuse_timeout : (s.refuse).timeout = s.timeout := rfl
@[simp] theorem State.refuse_txActive : (s.refuse).txActive = s.txActive := rfl
@[simp] theorem State.refuse_firstPending : (s.refuse).firstPending = s.firstPending := rfl
@[simp] theorem State.refuse_baselineValid : (s.refuse).baselineValid = s.baselineValid := rfl
@[simp] theorem State.refuse_overrun : (s.refuse).overrun = s.overrun := rfl
@[simp] theorem State.refuse_err : (s.refuse).err = s.err := rfl
@[simp] theorem State.refuse_arg0 : (s.refuse).arg0 = s.arg0 := rfl
@[simp] theorem State.refuse_arg1 : (s.refuse).arg1 = s.arg1 := rfl
@[simp] theorem State.refuse_result0 : (s.refuse).result0 = s.result0 := rfl
@[simp] theorem State.refuse_result1 : (s.refuse).result1 = s.result1 := rfl
@[simp] theorem State.refuse_errPos : (s.refuse).errPos = s.errPos := rfl
@[simp] theorem State.refuse_cfgSampleRate : (s.refuse).cfgSampleRate = s.cfgSampleRate := rfl
@[simp] theorem State.refuse_cfgBaseFreq : (s.refuse).cfgBaseFreq = s.cfgBaseFreq := rfl
@[simp] theorem State.refuse_cfgAmplitude : (s.refuse).cfgAmplitude = s.cfgAmplitude := rfl
@[simp] theorem State.refuse_cfgLeadin : (s.refuse).cfgLeadin = s.cfgLeadin := rfl
@[simp] theorem State.refuse_passthrough : (s.refuse).passthrough = s.passthrough := rfl
@[simp] theorem State.refuse_seqFirst : (s.refuse).seqFirst = s.seqFirst := rfl
@[simp] theorem State.refuse_phase : (s.refuse).phase = s.phase := rfl
@[simp] theorem State.refuse_prevSample : (s.refuse).prevSample = s.prevSample := rfl
@[simp] theorem State.refuse_prevHalf : (s.refuse).prevHalf = s.prevHalf := rfl
@[simp] theorem State.refuse_baseline : (s.refuse).baseline = s.baseline := rfl
@[simp] theorem State.refuse_expected : (s.refuse).expected = s.expected := rfl
@[simp] theorem State.refuse_final : (s.refuse).final = s.final := rfl
@[simp] theorem State.refuse_mem : (s.refuse).mem = s.mem := rfl
@[simp] theorem State.refuse_moves : (s.refuse).moves = s.moves := rfl
@[simp] theorem State.refuse_source : (s.refuse).source = s.source := rfl
@[simp] theorem State.refuse_sinkRoom : (s.refuse).sinkRoom = s.sinkRoom := rfl
@[simp] theorem State.refuse_pushed : (s.refuse).pushed = s.pushed := rfl
@[simp] theorem State.refuse_response : (s.refuse).response = s.response := rfl
@[simp] theorem State.refuse_powerOns : (s.refuse).powerOns = s.powerOns := rfl
@[simp] theorem State.refuse_draws : (s.refuse).draws = s.draws := rfl

/-! ### `State.finish` -/

@[simp] theorem State.finish_task (r0 r1 : Nat) (b : Bool) : (s.finish r0 r1 b).task = none := rfl
@[simp] theorem State.finish_done (r0 r1 : Nat) (b : Bool) : (s.finish r0 r1 b).done = true := rfl
@[simp] theorem State.finish_timeout (r0 r1 : Nat) (b : Bool) : (s.finish r0 r1 b).timeout = b := rfl
@[simp] theorem State.finish_txActive (r0 r1 : Nat) (b : Bool) : (s.finish r0 r1 b).txActive = s.txActive := rfl
@[simp] theorem State.finish_firstPending (r0 r1 : Nat) (b : Bool) : (s.finish r0 r1 b).firstPending = s.firstPending := rfl
@[simp] theorem State.finish_baselineValid (r0 r1 : Nat) (b : Bool) : (s.finish r0 r1 b).baselineValid = s.baselineValid := rfl
@[simp] theorem State.finish_overrun (r0 r1 : Nat) (b : Bool) : (s.finish r0 r1 b).overrun = s.overrun := rfl
@[simp] theorem State.finish_err (r0 r1 : Nat) (b : Bool) : (s.finish r0 r1 b).err = s.err := rfl
@[simp] theorem State.finish_arg0 (r0 r1 : Nat) (b : Bool) : (s.finish r0 r1 b).arg0 = s.arg0 := rfl
@[simp] theorem State.finish_arg1 (r0 r1 : Nat) (b : Bool) : (s.finish r0 r1 b).arg1 = s.arg1 := rfl
@[simp] theorem State.finish_result0 (r0 r1 : Nat) (b : Bool) : (s.finish r0 r1 b).result0 = resultWord r0 := rfl
@[simp] theorem State.finish_result1 (r0 r1 : Nat) (b : Bool) : (s.finish r0 r1 b).result1 = resultWord r1 := rfl
@[simp] theorem State.finish_errPos (r0 r1 : Nat) (b : Bool) : (s.finish r0 r1 b).errPos = s.errPos := rfl
@[simp] theorem State.finish_cfgSampleRate (r0 r1 : Nat) (b : Bool) : (s.finish r0 r1 b).cfgSampleRate = s.cfgSampleRate := rfl
@[simp] theorem State.finish_cfgBaseFreq (r0 r1 : Nat) (b : Bool) : (s.finish r0 r1 b).cfgBaseFreq = s.cfgBaseFreq := rfl
@[simp] theorem State.finish_cfgAmplitude (r0 r1 : Nat) (b : Bool) : (s.finish r0 r1 b).cfgAmplitude = s.cfgAmplitude := rfl
@[simp] theorem State.finish_cfgLeadin (r0 r1 : Nat) (b : Bool) : (s.finish r0 r1 b).cfgLeadin = s.cfgLeadin := rfl
@[simp] theorem State.finish_passthrough (r0 r1 : Nat) (b : Bool) : (s.finish r0 r1 b).passthrough = s.passthrough := rfl
@[simp] theorem State.finish_seqFirst (r0 r1 : Nat) (b : Bool) : (s.finish r0 r1 b).seqFirst = s.seqFirst := rfl
@[simp] theorem State.finish_phase (r0 r1 : Nat) (b : Bool) : (s.finish r0 r1 b).phase = s.phase := rfl
@[simp] theorem State.finish_prevSample (r0 r1 : Nat) (b : Bool) : (s.finish r0 r1 b).prevSample = s.prevSample := rfl
@[simp] theorem State.finish_prevHalf (r0 r1 : Nat) (b : Bool) : (s.finish r0 r1 b).prevHalf = s.prevHalf := rfl
@[simp] theorem State.finish_baseline (r0 r1 : Nat) (b : Bool) : (s.finish r0 r1 b).baseline = s.baseline := rfl
@[simp] theorem State.finish_expected (r0 r1 : Nat) (b : Bool) : (s.finish r0 r1 b).expected = s.expected := rfl
@[simp] theorem State.finish_final (r0 r1 : Nat) (b : Bool) : (s.finish r0 r1 b).final = s.final := rfl
@[simp] theorem State.finish_mem (r0 r1 : Nat) (b : Bool) : (s.finish r0 r1 b).mem = s.mem := rfl
@[simp] theorem State.finish_moves (r0 r1 : Nat) (b : Bool) : (s.finish r0 r1 b).moves = s.moves := rfl
@[simp] theorem State.finish_source (r0 r1 : Nat) (b : Bool) : (s.finish r0 r1 b).source = s.source := rfl
@[simp] theorem State.finish_sinkRoom (r0 r1 : Nat) (b : Bool) : (s.finish r0 r1 b).sinkRoom = s.sinkRoom := rfl
@[simp] theorem State.finish_pushed (r0 r1 : Nat) (b : Bool) : (s.finish r0 r1 b).pushed = s.pushed := rfl
@[simp] theorem State.finish_response (r0 r1 : Nat) (b : Bool) : (s.finish r0 r1 b).response = s.response := rfl
@[simp] theorem State.finish_powerOns (r0 r1 : Nat) (b : Bool) : (s.finish r0 r1 b).powerOns = s.powerOns := rfl
@[simp] theorem State.finish_draws (r0 r1 : Nat) (b : Bool) : (s.finish r0 r1 b).draws = s.draws := rfl

/-! ### `State.raiseErr` -/

@[simp] theorem State.raiseErr_task (c : ErrCode) (r0 r1 p : Word) : (s.raiseErr c r0 r1 p).task = none := rfl
@[simp] theorem State.raiseErr_done (c : ErrCode) (r0 r1 p : Word) : (s.raiseErr c r0 r1 p).done = true := rfl
@[simp] theorem State.raiseErr_timeout (c : ErrCode) (r0 r1 p : Word) : (s.raiseErr c r0 r1 p).timeout = false := rfl
@[simp] theorem State.raiseErr_txActive (c : ErrCode) (r0 r1 p : Word) : (s.raiseErr c r0 r1 p).txActive = s.txActive := rfl
@[simp] theorem State.raiseErr_firstPending (c : ErrCode) (r0 r1 p : Word) : (s.raiseErr c r0 r1 p).firstPending = s.firstPending := rfl
@[simp] theorem State.raiseErr_baselineValid (c : ErrCode) (r0 r1 p : Word) : (s.raiseErr c r0 r1 p).baselineValid = s.baselineValid := rfl
@[simp] theorem State.raiseErr_overrun (c : ErrCode) (r0 r1 p : Word) : (s.raiseErr c r0 r1 p).overrun = s.overrun := rfl
@[simp] theorem State.raiseErr_err (c : ErrCode) (r0 r1 p : Word) : (s.raiseErr c r0 r1 p).err = if s.err = .none then c else s.err := rfl
@[simp] theorem State.raiseErr_arg0 (c : ErrCode) (r0 r1 p : Word) : (s.raiseErr c r0 r1 p).arg0 = s.arg0 := rfl
@[simp] theorem State.raiseErr_arg1 (c : ErrCode) (r0 r1 p : Word) : (s.raiseErr c r0 r1 p).arg1 = s.arg1 := rfl
@[simp] theorem State.raiseErr_result0 (c : ErrCode) (r0 r1 p : Word) : (s.raiseErr c r0 r1 p).result0 = r0 := rfl
@[simp] theorem State.raiseErr_result1 (c : ErrCode) (r0 r1 p : Word) : (s.raiseErr c r0 r1 p).result1 = r1 := rfl
@[simp] theorem State.raiseErr_errPos (c : ErrCode) (r0 r1 p : Word) : (s.raiseErr c r0 r1 p).errPos = if s.err = .none then p else s.errPos := rfl
@[simp] theorem State.raiseErr_cfgSampleRate (c : ErrCode) (r0 r1 p : Word) : (s.raiseErr c r0 r1 p).cfgSampleRate = s.cfgSampleRate := rfl
@[simp] theorem State.raiseErr_cfgBaseFreq (c : ErrCode) (r0 r1 p : Word) : (s.raiseErr c r0 r1 p).cfgBaseFreq = s.cfgBaseFreq := rfl
@[simp] theorem State.raiseErr_cfgAmplitude (c : ErrCode) (r0 r1 p : Word) : (s.raiseErr c r0 r1 p).cfgAmplitude = s.cfgAmplitude := rfl
@[simp] theorem State.raiseErr_cfgLeadin (c : ErrCode) (r0 r1 p : Word) : (s.raiseErr c r0 r1 p).cfgLeadin = s.cfgLeadin := rfl
@[simp] theorem State.raiseErr_passthrough (c : ErrCode) (r0 r1 p : Word) : (s.raiseErr c r0 r1 p).passthrough = s.passthrough := rfl
@[simp] theorem State.raiseErr_seqFirst (c : ErrCode) (r0 r1 p : Word) : (s.raiseErr c r0 r1 p).seqFirst = s.seqFirst := rfl
@[simp] theorem State.raiseErr_phase (c : ErrCode) (r0 r1 p : Word) : (s.raiseErr c r0 r1 p).phase = s.phase := rfl
@[simp] theorem State.raiseErr_prevSample (c : ErrCode) (r0 r1 p : Word) : (s.raiseErr c r0 r1 p).prevSample = s.prevSample := rfl
@[simp] theorem State.raiseErr_prevHalf (c : ErrCode) (r0 r1 p : Word) : (s.raiseErr c r0 r1 p).prevHalf = s.prevHalf := rfl
@[simp] theorem State.raiseErr_baseline (c : ErrCode) (r0 r1 p : Word) : (s.raiseErr c r0 r1 p).baseline = s.baseline := rfl
@[simp] theorem State.raiseErr_expected (c : ErrCode) (r0 r1 p : Word) : (s.raiseErr c r0 r1 p).expected = s.expected := rfl
@[simp] theorem State.raiseErr_final (c : ErrCode) (r0 r1 p : Word) : (s.raiseErr c r0 r1 p).final = s.final := rfl
@[simp] theorem State.raiseErr_mem (c : ErrCode) (r0 r1 p : Word) : (s.raiseErr c r0 r1 p).mem = s.mem := rfl
@[simp] theorem State.raiseErr_moves (c : ErrCode) (r0 r1 p : Word) : (s.raiseErr c r0 r1 p).moves = s.moves := rfl
@[simp] theorem State.raiseErr_source (c : ErrCode) (r0 r1 p : Word) : (s.raiseErr c r0 r1 p).source = s.source := rfl
@[simp] theorem State.raiseErr_sinkRoom (c : ErrCode) (r0 r1 p : Word) : (s.raiseErr c r0 r1 p).sinkRoom = s.sinkRoom := rfl
@[simp] theorem State.raiseErr_pushed (c : ErrCode) (r0 r1 p : Word) : (s.raiseErr c r0 r1 p).pushed = s.pushed := rfl
@[simp] theorem State.raiseErr_response (c : ErrCode) (r0 r1 p : Word) : (s.raiseErr c r0 r1 p).response = s.response := rfl
@[simp] theorem State.raiseErr_powerOns (c : ErrCode) (r0 r1 p : Word) : (s.raiseErr c r0 r1 p).powerOns = s.powerOns := rfl
@[simp] theorem State.raiseErr_draws (c : ErrCode) (r0 r1 p : Word) : (s.raiseErr c r0 r1 p).draws = s.draws := rfl

/-! ### `State.clrErr` -/

@[simp] theorem State.clrErr_task : (s.clrErr).task = s.task := rfl
@[simp] theorem State.clrErr_done : (s.clrErr).done = s.done := rfl
@[simp] theorem State.clrErr_timeout : (s.clrErr).timeout = s.timeout := rfl
@[simp] theorem State.clrErr_txActive : (s.clrErr).txActive = s.txActive := rfl
@[simp] theorem State.clrErr_firstPending : (s.clrErr).firstPending = s.firstPending := rfl
@[simp] theorem State.clrErr_baselineValid : (s.clrErr).baselineValid = s.baselineValid := rfl
@[simp] theorem State.clrErr_overrun : (s.clrErr).overrun = s.overrun := rfl
@[simp] theorem State.clrErr_err : (s.clrErr).err = .none := rfl
@[simp] theorem State.clrErr_arg0 : (s.clrErr).arg0 = s.arg0 := rfl
@[simp] theorem State.clrErr_arg1 : (s.clrErr).arg1 = s.arg1 := rfl
@[simp] theorem State.clrErr_result0 : (s.clrErr).result0 = s.result0 := rfl
@[simp] theorem State.clrErr_result1 : (s.clrErr).result1 = s.result1 := rfl
@[simp] theorem State.clrErr_errPos : (s.clrErr).errPos = Word.allOnes := rfl
@[simp] theorem State.clrErr_cfgSampleRate : (s.clrErr).cfgSampleRate = s.cfgSampleRate := rfl
@[simp] theorem State.clrErr_cfgBaseFreq : (s.clrErr).cfgBaseFreq = s.cfgBaseFreq := rfl
@[simp] theorem State.clrErr_cfgAmplitude : (s.clrErr).cfgAmplitude = s.cfgAmplitude := rfl
@[simp] theorem State.clrErr_cfgLeadin : (s.clrErr).cfgLeadin = s.cfgLeadin := rfl
@[simp] theorem State.clrErr_passthrough : (s.clrErr).passthrough = s.passthrough := rfl
@[simp] theorem State.clrErr_seqFirst : (s.clrErr).seqFirst = s.seqFirst := rfl
@[simp] theorem State.clrErr_phase : (s.clrErr).phase = s.phase := rfl
@[simp] theorem State.clrErr_prevSample : (s.clrErr).prevSample = s.prevSample := rfl
@[simp] theorem State.clrErr_prevHalf : (s.clrErr).prevHalf = s.prevHalf := rfl
@[simp] theorem State.clrErr_baseline : (s.clrErr).baseline = s.baseline := rfl
@[simp] theorem State.clrErr_expected : (s.clrErr).expected = s.expected := rfl
@[simp] theorem State.clrErr_final : (s.clrErr).final = s.final := rfl
@[simp] theorem State.clrErr_mem : (s.clrErr).mem = s.mem := rfl
@[simp] theorem State.clrErr_moves : (s.clrErr).moves = s.moves := rfl
@[simp] theorem State.clrErr_source : (s.clrErr).source = s.source := rfl
@[simp] theorem State.clrErr_sinkRoom : (s.clrErr).sinkRoom = s.sinkRoom := rfl
@[simp] theorem State.clrErr_pushed : (s.clrErr).pushed = s.pushed := rfl
@[simp] theorem State.clrErr_response : (s.clrErr).response = s.response := rfl
@[simp] theorem State.clrErr_powerOns : (s.clrErr).powerOns = s.powerOns := rfl
@[simp] theorem State.clrErr_draws : (s.clrErr).draws = s.draws := rfl

/-! ### `State.refuseCfg` -/

@[simp] theorem State.refuseCfg_task (c : ErrCode) : (s.refuseCfg c).task = s.task := rfl
@[simp] theorem State.refuseCfg_done (c : ErrCode) : (s.refuseCfg c).done = s.done := rfl
@[simp] theorem State.refuseCfg_timeout (c : ErrCode) : (s.refuseCfg c).timeout = s.timeout := rfl
@[simp] theorem State.refuseCfg_txActive (c : ErrCode) : (s.refuseCfg c).txActive = s.txActive := rfl
@[simp] theorem State.refuseCfg_firstPending (c : ErrCode) : (s.refuseCfg c).firstPending = s.firstPending := rfl
@[simp] theorem State.refuseCfg_baselineValid (c : ErrCode) : (s.refuseCfg c).baselineValid = s.baselineValid := rfl
@[simp] theorem State.refuseCfg_overrun (c : ErrCode) : (s.refuseCfg c).overrun = s.overrun := rfl
@[simp] theorem State.refuseCfg_err (c : ErrCode) : (s.refuseCfg c).err = if s.err = .none then c else s.err := rfl
@[simp] theorem State.refuseCfg_arg0 (c : ErrCode) : (s.refuseCfg c).arg0 = s.arg0 := rfl
@[simp] theorem State.refuseCfg_arg1 (c : ErrCode) : (s.refuseCfg c).arg1 = s.arg1 := rfl
@[simp] theorem State.refuseCfg_result0 (c : ErrCode) : (s.refuseCfg c).result0 = s.result0 := rfl
@[simp] theorem State.refuseCfg_result1 (c : ErrCode) : (s.refuseCfg c).result1 = s.result1 := rfl
@[simp] theorem State.refuseCfg_errPos (c : ErrCode) : (s.refuseCfg c).errPos = if s.err = .none then Word.allOnes else s.errPos := rfl
@[simp] theorem State.refuseCfg_cfgSampleRate (c : ErrCode) : (s.refuseCfg c).cfgSampleRate = s.cfgSampleRate := rfl
@[simp] theorem State.refuseCfg_cfgBaseFreq (c : ErrCode) : (s.refuseCfg c).cfgBaseFreq = s.cfgBaseFreq := rfl
@[simp] theorem State.refuseCfg_cfgAmplitude (c : ErrCode) : (s.refuseCfg c).cfgAmplitude = s.cfgAmplitude := rfl
@[simp] theorem State.refuseCfg_cfgLeadin (c : ErrCode) : (s.refuseCfg c).cfgLeadin = s.cfgLeadin := rfl
@[simp] theorem State.refuseCfg_passthrough (c : ErrCode) : (s.refuseCfg c).passthrough = s.passthrough := rfl
@[simp] theorem State.refuseCfg_seqFirst (c : ErrCode) : (s.refuseCfg c).seqFirst = s.seqFirst := rfl
@[simp] theorem State.refuseCfg_phase (c : ErrCode) : (s.refuseCfg c).phase = s.phase := rfl
@[simp] theorem State.refuseCfg_prevSample (c : ErrCode) : (s.refuseCfg c).prevSample = s.prevSample := rfl
@[simp] theorem State.refuseCfg_prevHalf (c : ErrCode) : (s.refuseCfg c).prevHalf = s.prevHalf := rfl
@[simp] theorem State.refuseCfg_baseline (c : ErrCode) : (s.refuseCfg c).baseline = s.baseline := rfl
@[simp] theorem State.refuseCfg_expected (c : ErrCode) : (s.refuseCfg c).expected = s.expected := rfl
@[simp] theorem State.refuseCfg_final (c : ErrCode) : (s.refuseCfg c).final = s.final := rfl
@[simp] theorem State.refuseCfg_mem (c : ErrCode) : (s.refuseCfg c).mem = s.mem := rfl
@[simp] theorem State.refuseCfg_moves (c : ErrCode) : (s.refuseCfg c).moves = s.moves := rfl
@[simp] theorem State.refuseCfg_source (c : ErrCode) : (s.refuseCfg c).source = s.source := rfl
@[simp] theorem State.refuseCfg_sinkRoom (c : ErrCode) : (s.refuseCfg c).sinkRoom = s.sinkRoom := rfl
@[simp] theorem State.refuseCfg_pushed (c : ErrCode) : (s.refuseCfg c).pushed = s.pushed := rfl
@[simp] theorem State.refuseCfg_response (c : ErrCode) : (s.refuseCfg c).response = s.response := rfl
@[simp] theorem State.refuseCfg_powerOns (c : ErrCode) : (s.refuseCfg c).powerOns = s.powerOns := rfl
@[simp] theorem State.refuseCfg_draws (c : ErrCode) : (s.refuseCfg c).draws = s.draws := rfl

/-! ### `State.start` -/

@[simp] theorem State.start_task (k : Task) : (s.start k).task = some k := rfl
@[simp] theorem State.start_done (k : Task) : (s.start k).done = s.done := rfl
@[simp] theorem State.start_timeout (k : Task) : (s.start k).timeout = s.timeout := rfl
@[simp] theorem State.start_txActive (k : Task) : (s.start k).txActive = s.txActive := rfl
@[simp] theorem State.start_firstPending (k : Task) : (s.start k).firstPending = s.firstPending := rfl
@[simp] theorem State.start_baselineValid (k : Task) : (s.start k).baselineValid = s.baselineValid := rfl
@[simp] theorem State.start_overrun (k : Task) : (s.start k).overrun = s.overrun := rfl
@[simp] theorem State.start_err (k : Task) : (s.start k).err = s.err := rfl
@[simp] theorem State.start_arg0 (k : Task) : (s.start k).arg0 = s.arg0 := rfl
@[simp] theorem State.start_arg1 (k : Task) : (s.start k).arg1 = s.arg1 := rfl
@[simp] theorem State.start_result0 (k : Task) : (s.start k).result0 = s.result0 := rfl
@[simp] theorem State.start_result1 (k : Task) : (s.start k).result1 = s.result1 := rfl
@[simp] theorem State.start_errPos (k : Task) : (s.start k).errPos = s.errPos := rfl
@[simp] theorem State.start_cfgSampleRate (k : Task) : (s.start k).cfgSampleRate = s.cfgSampleRate := rfl
@[simp] theorem State.start_cfgBaseFreq (k : Task) : (s.start k).cfgBaseFreq = s.cfgBaseFreq := rfl
@[simp] theorem State.start_cfgAmplitude (k : Task) : (s.start k).cfgAmplitude = s.cfgAmplitude := rfl
@[simp] theorem State.start_cfgLeadin (k : Task) : (s.start k).cfgLeadin = s.cfgLeadin := rfl
@[simp] theorem State.start_passthrough (k : Task) : (s.start k).passthrough = s.passthrough := rfl
@[simp] theorem State.start_seqFirst (k : Task) : (s.start k).seqFirst = s.seqFirst := rfl
@[simp] theorem State.start_phase (k : Task) : (s.start k).phase = s.phase := rfl
@[simp] theorem State.start_prevSample (k : Task) : (s.start k).prevSample = s.prevSample := rfl
@[simp] theorem State.start_prevHalf (k : Task) : (s.start k).prevHalf = s.prevHalf := rfl
@[simp] theorem State.start_baseline (k : Task) : (s.start k).baseline = s.baseline := rfl
@[simp] theorem State.start_expected (k : Task) : (s.start k).expected = s.expected := rfl
@[simp] theorem State.start_final (k : Task) : (s.start k).final = s.final := rfl
@[simp] theorem State.start_mem (k : Task) : (s.start k).mem = s.mem := rfl
@[simp] theorem State.start_moves (k : Task) : (s.start k).moves = s.moves := rfl
@[simp] theorem State.start_source (k : Task) : (s.start k).source = s.source := rfl
@[simp] theorem State.start_sinkRoom (k : Task) : (s.start k).sinkRoom = s.sinkRoom := rfl
@[simp] theorem State.start_pushed (k : Task) : (s.start k).pushed = s.pushed := rfl
@[simp] theorem State.start_response (k : Task) : (s.start k).response = s.response := rfl
@[simp] theorem State.start_powerOns (k : Task) : (s.start k).powerOns = s.powerOns := rfl
@[simp] theorem State.start_draws (k : Task) : (s.start k).draws = s.draws := rfl

/-! ### `State.push` -/

@[simp] theorem State.push_task (v : Int) : (s.push v).task = s.task := rfl
@[simp] theorem State.push_done (v : Int) : (s.push v).done = s.done := rfl
@[simp] theorem State.push_timeout (v : Int) : (s.push v).timeout = s.timeout := rfl
@[simp] theorem State.push_txActive (v : Int) : (s.push v).txActive = s.txActive := rfl
@[simp] theorem State.push_firstPending (v : Int) : (s.push v).firstPending = s.firstPending := rfl
@[simp] theorem State.push_baselineValid (v : Int) : (s.push v).baselineValid = s.baselineValid := rfl
@[simp] theorem State.push_overrun (v : Int) : (s.push v).overrun = s.overrun := rfl
@[simp] theorem State.push_err (v : Int) : (s.push v).err = s.err := rfl
@[simp] theorem State.push_arg0 (v : Int) : (s.push v).arg0 = s.arg0 := rfl
@[simp] theorem State.push_arg1 (v : Int) : (s.push v).arg1 = s.arg1 := rfl
@[simp] theorem State.push_result0 (v : Int) : (s.push v).result0 = s.result0 := rfl
@[simp] theorem State.push_result1 (v : Int) : (s.push v).result1 = s.result1 := rfl
@[simp] theorem State.push_errPos (v : Int) : (s.push v).errPos = s.errPos := rfl
@[simp] theorem State.push_cfgSampleRate (v : Int) : (s.push v).cfgSampleRate = s.cfgSampleRate := rfl
@[simp] theorem State.push_cfgBaseFreq (v : Int) : (s.push v).cfgBaseFreq = s.cfgBaseFreq := rfl
@[simp] theorem State.push_cfgAmplitude (v : Int) : (s.push v).cfgAmplitude = s.cfgAmplitude := rfl
@[simp] theorem State.push_cfgLeadin (v : Int) : (s.push v).cfgLeadin = s.cfgLeadin := rfl
@[simp] theorem State.push_passthrough (v : Int) : (s.push v).passthrough = s.passthrough := rfl
@[simp] theorem State.push_seqFirst (v : Int) : (s.push v).seqFirst = s.seqFirst := rfl
@[simp] theorem State.push_phase (v : Int) : (s.push v).phase = s.phase := rfl
@[simp] theorem State.push_prevSample (v : Int) : (s.push v).prevSample = s.prevSample := rfl
@[simp] theorem State.push_prevHalf (v : Int) : (s.push v).prevHalf = s.prevHalf := rfl
@[simp] theorem State.push_baseline (v : Int) : (s.push v).baseline = s.baseline := rfl
@[simp] theorem State.push_expected (v : Int) : (s.push v).expected = s.expected := rfl
@[simp] theorem State.push_final (v : Int) : (s.push v).final = s.final := rfl
@[simp] theorem State.push_mem (v : Int) : (s.push v).mem = s.mem := rfl
@[simp] theorem State.push_moves (v : Int) : (s.push v).moves = s.moves := rfl
@[simp] theorem State.push_source (v : Int) : (s.push v).source = s.source := rfl
@[simp] theorem State.push_sinkRoom (v : Int) : (s.push v).sinkRoom = s.sinkRoom - 1 := rfl
@[simp] theorem State.push_pushed (v : Int) : (s.push v).pushed = s.pushed ++ [BitVec.ofInt 16 v] := rfl
@[simp] theorem State.push_response (v : Int) : (s.push v).response = s.response := rfl
@[simp] theorem State.push_powerOns (v : Int) : (s.push v).powerOns = s.powerOns := rfl
@[simp] theorem State.push_draws (v : Int) : (s.push v).draws = s.draws := rfl

/-! ### `State.writeByte` -/

@[simp] theorem State.writeByte_task (a : Nat) (v : Byte) : (s.writeByte a v).task = s.task := rfl
@[simp] theorem State.writeByte_done (a : Nat) (v : Byte) : (s.writeByte a v).done = s.done := rfl
@[simp] theorem State.writeByte_timeout (a : Nat) (v : Byte) : (s.writeByte a v).timeout = s.timeout := rfl
@[simp] theorem State.writeByte_txActive (a : Nat) (v : Byte) : (s.writeByte a v).txActive = s.txActive := rfl
@[simp] theorem State.writeByte_firstPending (a : Nat) (v : Byte) : (s.writeByte a v).firstPending = s.firstPending := rfl
@[simp] theorem State.writeByte_baselineValid (a : Nat) (v : Byte) : (s.writeByte a v).baselineValid = s.baselineValid := rfl
@[simp] theorem State.writeByte_overrun (a : Nat) (v : Byte) : (s.writeByte a v).overrun = s.overrun := rfl
@[simp] theorem State.writeByte_err (a : Nat) (v : Byte) : (s.writeByte a v).err = s.err := rfl
@[simp] theorem State.writeByte_arg0 (a : Nat) (v : Byte) : (s.writeByte a v).arg0 = s.arg0 := rfl
@[simp] theorem State.writeByte_arg1 (a : Nat) (v : Byte) : (s.writeByte a v).arg1 = s.arg1 := rfl
@[simp] theorem State.writeByte_result0 (a : Nat) (v : Byte) : (s.writeByte a v).result0 = s.result0 := rfl
@[simp] theorem State.writeByte_result1 (a : Nat) (v : Byte) : (s.writeByte a v).result1 = s.result1 := rfl
@[simp] theorem State.writeByte_errPos (a : Nat) (v : Byte) : (s.writeByte a v).errPos = s.errPos := rfl
@[simp] theorem State.writeByte_cfgSampleRate (a : Nat) (v : Byte) : (s.writeByte a v).cfgSampleRate = s.cfgSampleRate := rfl
@[simp] theorem State.writeByte_cfgBaseFreq (a : Nat) (v : Byte) : (s.writeByte a v).cfgBaseFreq = s.cfgBaseFreq := rfl
@[simp] theorem State.writeByte_cfgAmplitude (a : Nat) (v : Byte) : (s.writeByte a v).cfgAmplitude = s.cfgAmplitude := rfl
@[simp] theorem State.writeByte_cfgLeadin (a : Nat) (v : Byte) : (s.writeByte a v).cfgLeadin = s.cfgLeadin := rfl
@[simp] theorem State.writeByte_passthrough (a : Nat) (v : Byte) : (s.writeByte a v).passthrough = s.passthrough := rfl
@[simp] theorem State.writeByte_seqFirst (a : Nat) (v : Byte) : (s.writeByte a v).seqFirst = s.seqFirst := rfl
@[simp] theorem State.writeByte_phase (a : Nat) (v : Byte) : (s.writeByte a v).phase = s.phase := rfl
@[simp] theorem State.writeByte_prevSample (a : Nat) (v : Byte) : (s.writeByte a v).prevSample = s.prevSample := rfl
@[simp] theorem State.writeByte_prevHalf (a : Nat) (v : Byte) : (s.writeByte a v).prevHalf = s.prevHalf := rfl
@[simp] theorem State.writeByte_baseline (a : Nat) (v : Byte) : (s.writeByte a v).baseline = s.baseline := rfl
@[simp] theorem State.writeByte_expected (a : Nat) (v : Byte) : (s.writeByte a v).expected = s.expected := rfl
@[simp] theorem State.writeByte_final (a : Nat) (v : Byte) : (s.writeByte a v).final = s.final := rfl
@[simp] theorem State.writeByte_mem (a : Nat) (v : Byte) : (s.writeByte a v).mem = Memory.write s.mem a v := rfl
@[simp] theorem State.writeByte_moves (a : Nat) (v : Byte) : (s.writeByte a v).moves = s.moves := rfl
@[simp] theorem State.writeByte_source (a : Nat) (v : Byte) : (s.writeByte a v).source = s.source := rfl
@[simp] theorem State.writeByte_sinkRoom (a : Nat) (v : Byte) : (s.writeByte a v).sinkRoom = s.sinkRoom := rfl
@[simp] theorem State.writeByte_pushed (a : Nat) (v : Byte) : (s.writeByte a v).pushed = s.pushed := rfl
@[simp] theorem State.writeByte_response (a : Nat) (v : Byte) : (s.writeByte a v).response = s.response := rfl
@[simp] theorem State.writeByte_powerOns (a : Nat) (v : Byte) : (s.writeByte a v).powerOns = s.powerOns := rfl
@[simp] theorem State.writeByte_draws (a : Nat) (v : Byte) : (s.writeByte a v).draws = s.draws := rfl

/-! ### `State.setBuf` -/

@[simp] theorem State.setBuf_task (i : Nat) (v : Byte) : (s.setBuf i v).task = s.task := rfl
@[simp] theorem State.setBuf_done (i : Nat) (v : Byte) : (s.setBuf i v).done = s.done := rfl
@[simp] theorem State.setBuf_timeout (i : Nat) (v : Byte) : (s.setBuf i v).timeout = s.timeout := rfl
@[simp] theorem State.setBuf_txActive (i : Nat) (v : Byte) : (s.setBuf i v).txActive = s.txActive := rfl
@[simp] theorem State.setBuf_firstPending (i : Nat) (v : Byte) : (s.setBuf i v).firstPending = s.firstPending := rfl
@[simp] theorem State.setBuf_baselineValid (i : Nat) (v : Byte) : (s.setBuf i v).baselineValid = s.baselineValid := rfl
@[simp] theorem State.setBuf_overrun (i : Nat) (v : Byte) : (s.setBuf i v).overrun = s.overrun := rfl
@[simp] theorem State.setBuf_err (i : Nat) (v : Byte) : (s.setBuf i v).err = s.err := rfl
@[simp] theorem State.setBuf_arg0 (i : Nat) (v : Byte) : (s.setBuf i v).arg0 = s.arg0 := rfl
@[simp] theorem State.setBuf_arg1 (i : Nat) (v : Byte) : (s.setBuf i v).arg1 = s.arg1 := rfl
@[simp] theorem State.setBuf_result0 (i : Nat) (v : Byte) : (s.setBuf i v).result0 = s.result0 := rfl
@[simp] theorem State.setBuf_result1 (i : Nat) (v : Byte) : (s.setBuf i v).result1 = s.result1 := rfl
@[simp] theorem State.setBuf_errPos (i : Nat) (v : Byte) : (s.setBuf i v).errPos = s.errPos := rfl
@[simp] theorem State.setBuf_cfgSampleRate (i : Nat) (v : Byte) : (s.setBuf i v).cfgSampleRate = s.cfgSampleRate := rfl
@[simp] theorem State.setBuf_cfgBaseFreq (i : Nat) (v : Byte) : (s.setBuf i v).cfgBaseFreq = s.cfgBaseFreq := rfl
@[simp] theorem State.setBuf_cfgAmplitude (i : Nat) (v : Byte) : (s.setBuf i v).cfgAmplitude = s.cfgAmplitude := rfl
@[simp] theorem State.setBuf_cfgLeadin (i : Nat) (v : Byte) : (s.setBuf i v).cfgLeadin = s.cfgLeadin := rfl
@[simp] theorem State.setBuf_passthrough (i : Nat) (v : Byte) : (s.setBuf i v).passthrough = s.passthrough := rfl
@[simp] theorem State.setBuf_seqFirst (i : Nat) (v : Byte) : (s.setBuf i v).seqFirst = s.seqFirst := rfl
@[simp] theorem State.setBuf_phase (i : Nat) (v : Byte) : (s.setBuf i v).phase = s.phase := rfl
@[simp] theorem State.setBuf_prevSample (i : Nat) (v : Byte) : (s.setBuf i v).prevSample = s.prevSample := rfl
@[simp] theorem State.setBuf_prevHalf (i : Nat) (v : Byte) : (s.setBuf i v).prevHalf = s.prevHalf := rfl
@[simp] theorem State.setBuf_baseline (i : Nat) (v : Byte) : (s.setBuf i v).baseline = s.baseline := rfl
@[simp] theorem State.setBuf_expected (i : Nat) (v : Byte) : (s.setBuf i v).expected = s.expected := rfl
@[simp] theorem State.setBuf_final (i : Nat) (v : Byte) : (s.setBuf i v).final = s.final := rfl
@[simp] theorem State.setBuf_mem (i : Nat) (v : Byte) : (s.setBuf i v).mem = Memory.write s.mem (bufOffset i) v := rfl
@[simp] theorem State.setBuf_moves (i : Nat) (v : Byte) : (s.setBuf i v).moves = s.moves := rfl
@[simp] theorem State.setBuf_source (i : Nat) (v : Byte) : (s.setBuf i v).source = s.source := rfl
@[simp] theorem State.setBuf_sinkRoom (i : Nat) (v : Byte) : (s.setBuf i v).sinkRoom = s.sinkRoom := rfl
@[simp] theorem State.setBuf_pushed (i : Nat) (v : Byte) : (s.setBuf i v).pushed = s.pushed := rfl
@[simp] theorem State.setBuf_response (i : Nat) (v : Byte) : (s.setBuf i v).response = s.response := rfl
@[simp] theorem State.setBuf_powerOns (i : Nat) (v : Byte) : (s.setBuf i v).powerOns = s.powerOns := rfl
@[simp] theorem State.setBuf_draws (i : Nat) (v : Byte) : (s.setBuf i v).draws = s.draws := rfl

/-! ### `State.ack` -/

@[simp] theorem State.ack_task : (s.ack).task = s.task := rfl
@[simp] theorem State.ack_done : (s.ack).done = s.done := rfl
@[simp] theorem State.ack_timeout : (s.ack).timeout = s.timeout := rfl
@[simp] theorem State.ack_txActive : (s.ack).txActive = s.txActive := rfl
@[simp] theorem State.ack_firstPending : (s.ack).firstPending = s.firstPending := rfl
@[simp] theorem State.ack_baselineValid : (s.ack).baselineValid = s.baselineValid := rfl
@[simp] theorem State.ack_overrun : (s.ack).overrun = s.overrun := rfl
@[simp] theorem State.ack_err : (s.ack).err = s.err := rfl
@[simp] theorem State.ack_arg0 : (s.ack).arg0 = s.arg0 := rfl
@[simp] theorem State.ack_arg1 : (s.ack).arg1 = s.arg1 := rfl
@[simp] theorem State.ack_result0 : (s.ack).result0 = s.result0 := rfl
@[simp] theorem State.ack_result1 : (s.ack).result1 = s.result1 := rfl
@[simp] theorem State.ack_errPos : (s.ack).errPos = s.errPos := rfl
@[simp] theorem State.ack_cfgSampleRate : (s.ack).cfgSampleRate = s.cfgSampleRate := rfl
@[simp] theorem State.ack_cfgBaseFreq : (s.ack).cfgBaseFreq = s.cfgBaseFreq := rfl
@[simp] theorem State.ack_cfgAmplitude : (s.ack).cfgAmplitude = s.cfgAmplitude := rfl
@[simp] theorem State.ack_cfgLeadin : (s.ack).cfgLeadin = s.cfgLeadin := rfl
@[simp] theorem State.ack_passthrough : (s.ack).passthrough = s.passthrough := rfl
@[simp] theorem State.ack_seqFirst : (s.ack).seqFirst = s.seqFirst := rfl
@[simp] theorem State.ack_phase : (s.ack).phase = s.phase := rfl
@[simp] theorem State.ack_prevSample : (s.ack).prevSample = s.prevSample := rfl
@[simp] theorem State.ack_prevHalf : (s.ack).prevHalf = s.prevHalf := rfl
@[simp] theorem State.ack_baseline : (s.ack).baseline = s.baseline := rfl
@[simp] theorem State.ack_expected : (s.ack).expected = s.expected := rfl
@[simp] theorem State.ack_final : (s.ack).final = s.final := rfl
@[simp] theorem State.ack_mem : (s.ack).mem = s.mem := rfl
@[simp] theorem State.ack_moves : (s.ack).moves = s.moves := rfl
@[simp] theorem State.ack_source : (s.ack).source = s.source := rfl
@[simp] theorem State.ack_sinkRoom : (s.ack).sinkRoom = s.sinkRoom := rfl
@[simp] theorem State.ack_pushed : (s.ack).pushed = s.pushed := rfl
@[simp] theorem State.ack_response : (s.ack).response = .ack := rfl
@[simp] theorem State.ack_powerOns : (s.ack).powerOns = s.powerOns := rfl
@[simp] theorem State.ack_draws : (s.ack).draws = s.draws := rfl

/-! ### `State.answer` -/

@[simp] theorem State.answer_task (v : Word) : (s.answer v).task = s.task := rfl
@[simp] theorem State.answer_done (v : Word) : (s.answer v).done = s.done := rfl
@[simp] theorem State.answer_timeout (v : Word) : (s.answer v).timeout = s.timeout := rfl
@[simp] theorem State.answer_txActive (v : Word) : (s.answer v).txActive = s.txActive := rfl
@[simp] theorem State.answer_firstPending (v : Word) : (s.answer v).firstPending = s.firstPending := rfl
@[simp] theorem State.answer_baselineValid (v : Word) : (s.answer v).baselineValid = s.baselineValid := rfl
@[simp] theorem State.answer_overrun (v : Word) : (s.answer v).overrun = s.overrun := rfl
@[simp] theorem State.answer_err (v : Word) : (s.answer v).err = s.err := rfl
@[simp] theorem State.answer_arg0 (v : Word) : (s.answer v).arg0 = s.arg0 := rfl
@[simp] theorem State.answer_arg1 (v : Word) : (s.answer v).arg1 = s.arg1 := rfl
@[simp] theorem State.answer_result0 (v : Word) : (s.answer v).result0 = s.result0 := rfl
@[simp] theorem State.answer_result1 (v : Word) : (s.answer v).result1 = s.result1 := rfl
@[simp] theorem State.answer_errPos (v : Word) : (s.answer v).errPos = s.errPos := rfl
@[simp] theorem State.answer_cfgSampleRate (v : Word) : (s.answer v).cfgSampleRate = s.cfgSampleRate := rfl
@[simp] theorem State.answer_cfgBaseFreq (v : Word) : (s.answer v).cfgBaseFreq = s.cfgBaseFreq := rfl
@[simp] theorem State.answer_cfgAmplitude (v : Word) : (s.answer v).cfgAmplitude = s.cfgAmplitude := rfl
@[simp] theorem State.answer_cfgLeadin (v : Word) : (s.answer v).cfgLeadin = s.cfgLeadin := rfl
@[simp] theorem State.answer_passthrough (v : Word) : (s.answer v).passthrough = s.passthrough := rfl
@[simp] theorem State.answer_seqFirst (v : Word) : (s.answer v).seqFirst = s.seqFirst := rfl
@[simp] theorem State.answer_phase (v : Word) : (s.answer v).phase = s.phase := rfl
@[simp] theorem State.answer_prevSample (v : Word) : (s.answer v).prevSample = s.prevSample := rfl
@[simp] theorem State.answer_prevHalf (v : Word) : (s.answer v).prevHalf = s.prevHalf := rfl
@[simp] theorem State.answer_baseline (v : Word) : (s.answer v).baseline = s.baseline := rfl
@[simp] theorem State.answer_expected (v : Word) : (s.answer v).expected = s.expected := rfl
@[simp] theorem State.answer_final (v : Word) : (s.answer v).final = s.final := rfl
@[simp] theorem State.answer_mem (v : Word) : (s.answer v).mem = s.mem := rfl
@[simp] theorem State.answer_moves (v : Word) : (s.answer v).moves = s.moves := rfl
@[simp] theorem State.answer_source (v : Word) : (s.answer v).source = s.source := rfl
@[simp] theorem State.answer_sinkRoom (v : Word) : (s.answer v).sinkRoom = s.sinkRoom := rfl
@[simp] theorem State.answer_pushed (v : Word) : (s.answer v).pushed = s.pushed := rfl
@[simp] theorem State.answer_response (v : Word) : (s.answer v).response = .data v := rfl
@[simp] theorem State.answer_powerOns (v : Word) : (s.answer v).powerOns = s.powerOns := rfl
@[simp] theorem State.answer_draws (v : Word) : (s.answer v).draws = s.draws := rfl

/-! ### `State.answerDrawn` -/

@[simp] theorem State.answerDrawn_task (f : Word → Word) : (s.answerDrawn f).task = s.task := rfl
@[simp] theorem State.answerDrawn_done (f : Word → Word) : (s.answerDrawn f).done = s.done := rfl
@[simp] theorem State.answerDrawn_timeout (f : Word → Word) : (s.answerDrawn f).timeout = s.timeout := rfl
@[simp] theorem State.answerDrawn_txActive (f : Word → Word) : (s.answerDrawn f).txActive = s.txActive := rfl
@[simp] theorem State.answerDrawn_firstPending (f : Word → Word) : (s.answerDrawn f).firstPending = s.firstPending := rfl
@[simp] theorem State.answerDrawn_baselineValid (f : Word → Word) : (s.answerDrawn f).baselineValid = s.baselineValid := rfl
@[simp] theorem State.answerDrawn_overrun (f : Word → Word) : (s.answerDrawn f).overrun = s.overrun := rfl
@[simp] theorem State.answerDrawn_err (f : Word → Word) : (s.answerDrawn f).err = s.err := rfl
@[simp] theorem State.answerDrawn_arg0 (f : Word → Word) : (s.answerDrawn f).arg0 = s.arg0 := rfl
@[simp] theorem State.answerDrawn_arg1 (f : Word → Word) : (s.answerDrawn f).arg1 = s.arg1 := rfl
@[simp] theorem State.answerDrawn_result0 (f : Word → Word) : (s.answerDrawn f).result0 = s.result0 := rfl
@[simp] theorem State.answerDrawn_result1 (f : Word → Word) : (s.answerDrawn f).result1 = s.result1 := rfl
@[simp] theorem State.answerDrawn_errPos (f : Word → Word) : (s.answerDrawn f).errPos = s.errPos := rfl
@[simp] theorem State.answerDrawn_cfgSampleRate (f : Word → Word) : (s.answerDrawn f).cfgSampleRate = s.cfgSampleRate := rfl
@[simp] theorem State.answerDrawn_cfgBaseFreq (f : Word → Word) : (s.answerDrawn f).cfgBaseFreq = s.cfgBaseFreq := rfl
@[simp] theorem State.answerDrawn_cfgAmplitude (f : Word → Word) : (s.answerDrawn f).cfgAmplitude = s.cfgAmplitude := rfl
@[simp] theorem State.answerDrawn_cfgLeadin (f : Word → Word) : (s.answerDrawn f).cfgLeadin = s.cfgLeadin := rfl
@[simp] theorem State.answerDrawn_passthrough (f : Word → Word) : (s.answerDrawn f).passthrough = s.passthrough := rfl
@[simp] theorem State.answerDrawn_seqFirst (f : Word → Word) : (s.answerDrawn f).seqFirst = s.seqFirst := rfl
@[simp] theorem State.answerDrawn_phase (f : Word → Word) : (s.answerDrawn f).phase = s.phase := rfl
@[simp] theorem State.answerDrawn_prevSample (f : Word → Word) : (s.answerDrawn f).prevSample = s.prevSample := rfl
@[simp] theorem State.answerDrawn_prevHalf (f : Word → Word) : (s.answerDrawn f).prevHalf = s.prevHalf := rfl
@[simp] theorem State.answerDrawn_baseline (f : Word → Word) : (s.answerDrawn f).baseline = s.baseline := rfl
@[simp] theorem State.answerDrawn_expected (f : Word → Word) : (s.answerDrawn f).expected = s.expected := rfl
@[simp] theorem State.answerDrawn_final (f : Word → Word) : (s.answerDrawn f).final = s.final := rfl
@[simp] theorem State.answerDrawn_mem (f : Word → Word) : (s.answerDrawn f).mem = s.mem := rfl
@[simp] theorem State.answerDrawn_moves (f : Word → Word) : (s.answerDrawn f).moves = s.moves := rfl
@[simp] theorem State.answerDrawn_source (f : Word → Word) : (s.answerDrawn f).source = s.source := rfl
@[simp] theorem State.answerDrawn_sinkRoom (f : Word → Word) : (s.answerDrawn f).sinkRoom = s.sinkRoom := rfl
@[simp] theorem State.answerDrawn_pushed (f : Word → Word) : (s.answerDrawn f).pushed = s.pushed := rfl
@[simp] theorem State.answerDrawn_response (f : Word → Word) : (s.answerDrawn f).response = .data (f (Config.busyDraw s.draws)) := rfl
@[simp] theorem State.answerDrawn_powerOns (f : Word → Word) : (s.answerDrawn f).powerOns = s.powerOns := rfl
@[simp] theorem State.answerDrawn_draws (f : Word → Word) : (s.answerDrawn f).draws = s.draws + 1 := rfl

/-! ### `State.busError` -/

@[simp] theorem State.busError_task : (s.busError).task = s.task := rfl
@[simp] theorem State.busError_done : (s.busError).done = s.done := rfl
@[simp] theorem State.busError_timeout : (s.busError).timeout = s.timeout := rfl
@[simp] theorem State.busError_txActive : (s.busError).txActive = s.txActive := rfl
@[simp] theorem State.busError_firstPending : (s.busError).firstPending = s.firstPending := rfl
@[simp] theorem State.busError_baselineValid : (s.busError).baselineValid = s.baselineValid := rfl
@[simp] theorem State.busError_overrun : (s.busError).overrun = s.overrun := rfl
@[simp] theorem State.busError_err : (s.busError).err = s.err := rfl
@[simp] theorem State.busError_arg0 : (s.busError).arg0 = s.arg0 := rfl
@[simp] theorem State.busError_arg1 : (s.busError).arg1 = s.arg1 := rfl
@[simp] theorem State.busError_result0 : (s.busError).result0 = s.result0 := rfl
@[simp] theorem State.busError_result1 : (s.busError).result1 = s.result1 := rfl
@[simp] theorem State.busError_errPos : (s.busError).errPos = s.errPos := rfl
@[simp] theorem State.busError_cfgSampleRate : (s.busError).cfgSampleRate = s.cfgSampleRate := rfl
@[simp] theorem State.busError_cfgBaseFreq : (s.busError).cfgBaseFreq = s.cfgBaseFreq := rfl
@[simp] theorem State.busError_cfgAmplitude : (s.busError).cfgAmplitude = s.cfgAmplitude := rfl
@[simp] theorem State.busError_cfgLeadin : (s.busError).cfgLeadin = s.cfgLeadin := rfl
@[simp] theorem State.busError_passthrough : (s.busError).passthrough = s.passthrough := rfl
@[simp] theorem State.busError_seqFirst : (s.busError).seqFirst = s.seqFirst := rfl
@[simp] theorem State.busError_phase : (s.busError).phase = s.phase := rfl
@[simp] theorem State.busError_prevSample : (s.busError).prevSample = s.prevSample := rfl
@[simp] theorem State.busError_prevHalf : (s.busError).prevHalf = s.prevHalf := rfl
@[simp] theorem State.busError_baseline : (s.busError).baseline = s.baseline := rfl
@[simp] theorem State.busError_expected : (s.busError).expected = s.expected := rfl
@[simp] theorem State.busError_final : (s.busError).final = s.final := rfl
@[simp] theorem State.busError_mem : (s.busError).mem = s.mem := rfl
@[simp] theorem State.busError_moves : (s.busError).moves = s.moves := rfl
@[simp] theorem State.busError_source : (s.busError).source = s.source := rfl
@[simp] theorem State.busError_sinkRoom : (s.busError).sinkRoom = s.sinkRoom := rfl
@[simp] theorem State.busError_pushed : (s.busError).pushed = s.pushed := rfl
@[simp] theorem State.busError_response : (s.busError).response = .busError := rfl
@[simp] theorem State.busError_powerOns : (s.busError).powerOns = s.powerOns := rfl
@[simp] theorem State.busError_draws : (s.busError).draws = s.draws := rfl

/-! ### `State.softReset` -/

@[simp] theorem State.softReset_task : (s.softReset).task = none := rfl
@[simp] theorem State.softReset_done : (s.softReset).done = false := rfl
@[simp] theorem State.softReset_timeout : (s.softReset).timeout = false := rfl
@[simp] theorem State.softReset_txActive : (s.softReset).txActive = false := rfl
@[simp] theorem State.softReset_firstPending : (s.softReset).firstPending = true := rfl
@[simp] theorem State.softReset_baselineValid : (s.softReset).baselineValid = false := rfl
@[simp] theorem State.softReset_overrun : (s.softReset).overrun = false := rfl
@[simp] theorem State.softReset_err : (s.softReset).err = .none := rfl
@[simp] theorem State.softReset_arg0 : (s.softReset).arg0 = 0#32 := rfl
@[simp] theorem State.softReset_arg1 : (s.softReset).arg1 = 0#32 := rfl
@[simp] theorem State.softReset_result0 : (s.softReset).result0 = 0#32 := rfl
@[simp] theorem State.softReset_result1 : (s.softReset).result1 = 0#32 := rfl
@[simp] theorem State.softReset_errPos : (s.softReset).errPos = Word.allOnes := rfl
@[simp] theorem State.softReset_cfgSampleRate : (s.softReset).cfgSampleRate = s.cfgSampleRate := rfl
@[simp] theorem State.softReset_cfgBaseFreq : (s.softReset).cfgBaseFreq = s.cfgBaseFreq := rfl
@[simp] theorem State.softReset_cfgAmplitude : (s.softReset).cfgAmplitude = s.cfgAmplitude := rfl
@[simp] theorem State.softReset_cfgLeadin : (s.softReset).cfgLeadin = s.cfgLeadin := rfl
@[simp] theorem State.softReset_passthrough : (s.softReset).passthrough = s.passthrough := rfl
@[simp] theorem State.softReset_seqFirst : (s.softReset).seqFirst = s.seqFirst := rfl
@[simp] theorem State.softReset_phase : (s.softReset).phase = 0#32 := rfl
@[simp] theorem State.softReset_prevSample : (s.softReset).prevSample = 0#16 := rfl
@[simp] theorem State.softReset_prevHalf : (s.softReset).prevHalf = false := rfl
@[simp] theorem State.softReset_baseline : (s.softReset).baseline = 0#32 := rfl
@[simp] theorem State.softReset_expected : (s.softReset).expected = s.seqFirst := rfl
@[simp] theorem State.softReset_final : (s.softReset).final = false := rfl
@[simp] theorem State.softReset_mem : (s.softReset).mem = s.mem := rfl
@[simp] theorem State.softReset_moves : (s.softReset).moves = s.moves := rfl
@[simp] theorem State.softReset_source : (s.softReset).source = s.source := rfl
@[simp] theorem State.softReset_sinkRoom : (s.softReset).sinkRoom = s.sinkRoom := rfl
@[simp] theorem State.softReset_pushed : (s.softReset).pushed = s.pushed := rfl
@[simp] theorem State.softReset_response : (s.softReset).response = s.response := rfl
@[simp] theorem State.softReset_powerOns : (s.softReset).powerOns = s.powerOns := rfl
@[simp] theorem State.softReset_draws : (s.softReset).draws = s.draws := rfl

/-! ### `State.powerOn` -/

@[simp] theorem State.powerOn_task : (s.powerOn).task = none := rfl
@[simp] theorem State.powerOn_done : (s.powerOn).done = false := rfl
@[simp] theorem State.powerOn_timeout : (s.powerOn).timeout = false := rfl
@[simp] theorem State.powerOn_txActive : (s.powerOn).txActive = false := rfl
@[simp] theorem State.powerOn_firstPending : (s.powerOn).firstPending = true := rfl
@[simp] theorem State.powerOn_baselineValid : (s.powerOn).baselineValid = false := rfl
@[simp] theorem State.powerOn_overrun : (s.powerOn).overrun = false := rfl
@[simp] theorem State.powerOn_err : (s.powerOn).err = .none := rfl
@[simp] theorem State.powerOn_arg0 : (s.powerOn).arg0 = 0#32 := rfl
@[simp] theorem State.powerOn_arg1 : (s.powerOn).arg1 = 0#32 := rfl
@[simp] theorem State.powerOn_result0 : (s.powerOn).result0 = 0#32 := rfl
@[simp] theorem State.powerOn_result1 : (s.powerOn).result1 = 0#32 := rfl
@[simp] theorem State.powerOn_errPos : (s.powerOn).errPos = Word.allOnes := rfl
@[simp] theorem State.powerOn_cfgSampleRate : (s.powerOn).cfgSampleRate = 48000#32 := rfl
@[simp] theorem State.powerOn_cfgBaseFreq : (s.powerOn).cfgBaseFreq = 600#32 := rfl
@[simp] theorem State.powerOn_cfgAmplitude : (s.powerOn).cfgAmplitude = 16384#32 := rfl
@[simp] theorem State.powerOn_cfgLeadin : (s.powerOn).cfgLeadin = 1200#32 := rfl
@[simp] theorem State.powerOn_passthrough : (s.powerOn).passthrough = false := rfl
@[simp] theorem State.powerOn_seqFirst : (s.powerOn).seqFirst = 1#8 := rfl
@[simp] theorem State.powerOn_phase : (s.powerOn).phase = 0#32 := rfl
@[simp] theorem State.powerOn_prevSample : (s.powerOn).prevSample = 0#16 := rfl
@[simp] theorem State.powerOn_prevHalf : (s.powerOn).prevHalf = false := rfl
@[simp] theorem State.powerOn_baseline : (s.powerOn).baseline = 0#32 := rfl
@[simp] theorem State.powerOn_expected : (s.powerOn).expected = 1#8 := rfl
@[simp] theorem State.powerOn_final : (s.powerOn).final = false := rfl
@[simp] theorem State.powerOn_mem : (s.powerOn).mem = [] := rfl
@[simp] theorem State.powerOn_moves : (s.powerOn).moves = s.moves := rfl
@[simp] theorem State.powerOn_source : (s.powerOn).source = s.source := rfl
@[simp] theorem State.powerOn_sinkRoom : (s.powerOn).sinkRoom = s.sinkRoom := rfl
@[simp] theorem State.powerOn_pushed : (s.powerOn).pushed = s.pushed := rfl
@[simp] theorem State.powerOn_response : (s.powerOn).response = .none := rfl
@[simp] theorem State.powerOn_powerOns : (s.powerOn).powerOns = s.powerOns + 1 := rfl
@[simp] theorem State.powerOn_draws : (s.powerOn).draws = s.draws := rfl

/-! ### BUSY -/

/-- BUSY is 1 exactly when a task is held (R24). -/
theorem State.busy_eq_true : s.busy = true ↔ ∃ k, s.task = some k := Option.isSome_iff_exists

theorem State.busy_eq_false : s.busy = false ↔ s.task = none := by simp [State.busy]

@[simp] theorem State.finish_busy (r0 r1 : Nat) (b : Bool) : (s.finish r0 r1 b).busy = false := rfl

@[simp] theorem State.raiseErr_busy (c : ErrCode) (r0 r1 p : Word) : (s.raiseErr c r0 r1 p).busy = false := rfl

@[simp] theorem State.start_busy (k : Task) : (s.start k).busy = true := rfl

@[simp] theorem State.softReset_busy : s.softReset.busy = false := rfl

end Sys2Proof.Machine
end

