-- ==== Sys2Proof/Laws/Memory.lean ====
section
/-!
SUPPORT. The laws of the payload buffer: a read after a write, and that every memory operation keeps the canonical form
and the buffer's range of keys.
-/

namespace Sys2Proof.Machine

theorem Memory.read_write_same (m : List Host.Cell) (a : Nat) (v : Byte) :
    Memory.read (Memory.write m a v) a = some v := by
  induction m with
  | nil => simp [Memory.write, Memory.read]
  | cons c m ih =>
    obtain ⟨b, w⟩ := c
    simp only [Memory.write]
    split
    · simp [Memory.read]
    · split
      · simp [Memory.read]
      · rename_i h
        simp [Memory.read, ih, Ne.symm h]

theorem Memory.read_write_other (m : List Host.Cell) {a b : Nat} (v : Byte) (h : b ≠ a) :
    Memory.read (Memory.write m a v) b = Memory.read m b := by
  induction m with
  | nil => simp [Memory.write, Memory.read, Ne.symm h]
  | cons c m ih =>
    obtain ⟨d, w⟩ := c
    simp only [Memory.write]
    split
    · simp [Memory.read, Ne.symm h]
    · split
      · rename_i hd
        simp [Memory.read, Ne.symm h, ← hd]
      · simp [Memory.read, ih]

/-- A write puts a key at the front only if it was there or is the one written. -/
theorem Memory.write_head (m : List Host.Cell) (a : Nat) (v : Byte) (d : Host.Cell) (k : Nat)
    (hm : ∀ c ∈ m.head?, k < c.1) (ha : k < a) (hd : d ∈ (Memory.write m a v).head?) : k < d.1 := by
  cases m with
  | nil => simp [Memory.write] at hd; subst hd; exact ha
  | cons c m =>
    obtain ⟨b, w⟩ := c
    simp only [Memory.write] at hd
    split at hd
    · simp at hd; subst hd; exact ha
    · split at hd
      · simp at hd; subst hd; exact ha
      · simp at hd; subst hd; exact hm (b, w) (by simp)

theorem Memory.wf_cons (c : Host.Cell) (m : List Host.Cell) :
    Memory.wf (c :: m) = true ↔ (∀ d ∈ m.head?, c.1 < d.1) ∧ Memory.wf m = true := by
  cases m <;> simp [Memory.wf]

/-- Writing keeps the canonical form. -/
theorem Memory.wf_write (m : List Host.Cell) (a : Nat) (v : Byte) (h : Memory.wf m = true) :
    Memory.wf (Memory.write m a v) = true := by
  induction m with
  | nil => rfl
  | cons c m ih =>
    obtain ⟨b, w⟩ := c
    obtain ⟨hh, ht⟩ := (Memory.wf_cons _ _).1 h
    simp only [Memory.write]
    split
    · rename_i hlt
      exact (Memory.wf_cons _ _).2 ⟨by simpa using hlt, h⟩
    · split
      · rename_i heq
        subst heq
        exact (Memory.wf_cons _ _).2 ⟨hh, ht⟩
      · rename_i h1 h2
        exact (Memory.wf_cons _ _).2
          ⟨fun d hd => Memory.write_head m a v d b hh (by simp only [Nat.not_lt] at h1; omega) hd, ih ht⟩

/-- Writing at a key with a property keeps the property of all keys. -/
theorem Memory.all_write (m : List Host.Cell) (a : Nat) (v : Byte) (p : Nat → Bool)
    (h : m.all (fun c => p c.1) = true) (ha : p a = true) :
    (Memory.write m a v).all (fun c => p c.1) = true := by
  induction m with
  | nil => simpa [Memory.write] using ha
  | cons c m ih =>
    obtain ⟨b, w⟩ := c
    simp only [List.all_cons, Bool.and_eq_true] at h
    simp only [Memory.write]
    split
    · simpa [ha, h.1] using h.2
    · split
      · simpa [ha] using h.2
      · simpa [h.1] using ih h.2

theorem Memory.wf_reset : Memory.wf State.reset.mem = true := rfl

/-! ### Bytes of the state -/

theorem State.readByte_writeByte_same (s : State) (a : Nat) (v : Byte) : (s.writeByte a v).readByte a = v := by
  simp [State.readByte, State.writeByte, Memory.read_write_same]

theorem State.readByte_writeByte_other (s : State) {a b : Nat} (v : Byte) (h : b ≠ a) :
    (s.writeByte a v).readByte b = s.readByte b := by
  simp [State.readByte, State.writeByte, Memory.read_write_other _ _ h]

/-- A byte's reading depends on the cells and the power-on count alone. -/
theorem State.readByte_congr {s t : State} (hm : t.mem = s.mem) (hp : t.powerOns = s.powerOns) (a : Nat) :
    t.readByte a = s.readByte a := by
  simp [State.readByte, hm, hp]

theorem State.buf_setBuf_same (s : State) (i : Nat) (v : Byte) : (s.setBuf i v).buf i = v :=
  s.readByte_writeByte_same _ v

theorem State.buf_setBuf_other (s : State) {i j : Nat} (v : Byte) (h : j ≠ i) : (s.setBuf i v).buf j = s.buf j :=
  s.readByte_writeByte_other v (by simpa [bufOffset] using h)

/-- Writing several bytes changes only the cells. -/
theorem State.writeBytes_eq (s : State) (a v n : Nat) : ∃ m, s.writeBytes a v n = { s with mem := m } := by
  induction n generalizing s a v with
  | zero => exact ⟨s.mem, rfl⟩
  | succ n ih =>
    obtain ⟨m, hm⟩ := ih (s.writeByte a (BitVec.ofNat 8 v)) (a + 1) (v / 256)
    exact ⟨m, hm⟩

theorem State.readByte_writeBytes_other (s : State) (a v n b : Nat) (h : b < a ∨ a + n ≤ b) :
    (s.writeBytes a v n).readByte b = s.readByte b := by
  induction n generalizing s a v with
  | zero => rfl
  | succ n ih =>
    rw [State.writeBytes, ih _ _ _ (by omega), State.readByte_writeByte_other _ _ (by omega)]

theorem State.readByte_writeBytes_same (s : State) (a v n k : Nat) (h : k < n) :
    (s.writeBytes a v n).readByte (a + k) = BitVec.ofNat 8 (v / 256 ^ k) := by
  induction n generalizing s a v k with
  | zero => omega
  | succ n ih =>
    rw [State.writeBytes]
    cases k with
    | zero =>
      rw [State.readByte_writeBytes_other _ _ _ _ _ (by omega), Nat.add_zero, State.readByte_writeByte_same,
        Nat.pow_zero, Nat.div_one]
    | succ k =>
      have := ih (s.writeByte a (BitVec.ofNat 8 v)) (a + 1) (v / 256) k (by omega)
      rw [show a + (k + 1) = a + 1 + k by omega, this, Nat.div_div_eq_div_mul, Nat.pow_succ, Nat.mul_comm 256]

theorem State.wf_writeBytes (s : State) (a v n : Nat) (h : Memory.wf s.mem = true) :
    Memory.wf (s.writeBytes a v n).mem = true := by
  induction n generalizing s a v with
  | zero => exact h
  | succ n ih => exact ih _ _ _ (Memory.wf_write _ _ _ h)

theorem State.all_writeBytes (s : State) (a v n : Nat) (p : Nat → Bool)
    (h : s.mem.all (fun c => p c.1) = true) (hp : ∀ k, k < n → p (a + k) = true) :
    (s.writeBytes a v n).mem.all (fun c => p c.1) = true := by
  induction n generalizing s a v with
  | zero => exact h
  | succ n ih =>
    refine ih _ _ _ (Memory.all_write _ _ _ _ h (hp 0 (by omega))) fun k hk => ?_
    rw [show a + 1 + k = a + (k + 1) by omega]
    exact hp _ (by omega)

end Sys2Proof.Machine
end

