-- ==== Sys2Proof/Laws/Ops.lean ====
section
/-!
SUPPORT. What the shared operations can do: the issue checks, raising an error, and the width of a result.
-/

namespace Sys2Proof.Machine

/-! ### The issue checks -/

theorem State.issue_busy (s : State) (run : State → State) (h : s.busy = true) : s.issue run = .next s.drop := by
  simp [State.issue, h]

theorem State.issue_error (s : State) (run : State → State) (hb : s.busy = false) (he : s.err ≠ .none) :
    s.issue run = .next s.refuse := by
  simp [State.issue, hb, he]

theorem State.issue_ready (s : State) (run : State → State) (hb : s.busy = false) (he : s.err = .none) :
    s.issue run = .next (run s) := by
  simp [State.issue, hb, he]

/-- Everything issuing can do: dropped, refused, or run. -/
theorem State.issue_cases {s t : State} {run : State → State} (h : s.issue run = .next t) :
    (s.busy = true ∧ t = s.drop) ∨ (s.busy = false ∧ s.err ≠ .none ∧ t = s.refuse)
      ∨ (s.busy = false ∧ s.err = .none ∧ t = run s) := by
  unfold State.issue at h
  split at h
  · cases h; exact .inl ⟨by assumption, rfl⟩
  · split at h
    · cases h; exact .inr (.inr ⟨by simp_all, by assumption, rfl⟩)
    · cases h; exact .inr (.inl ⟨by simp_all, by assumption, rfl⟩)

/-- Issuing always answers a next state. -/
theorem State.issue_next (s : State) (run : State → State) : ∃ t, s.issue run = .next t := by
  unfold State.issue
  split
  · exact ⟨_, rfl⟩
  · split <;> exact ⟨_, rfl⟩

/-! ### Errors -/

theorem State.raiseErr_of_none (s : State) (c : ErrCode) (r0 r1 p : Word) (h : s.err = .none) :
    s.raiseErr c r0 r1 p = { s with
      result0 := r0, result1 := r1, timeout := false, err := c, errPos := p, task := none, done := true } := by
  simp [State.raiseErr, h]

theorem State.usageErr_of_none (s : State) (c : ErrCode) (h : s.err = .none) :
    s.usageErr c = { s with
      result0 := 0#32, result1 := 0#32, timeout := false, err := c, errPos := Word.allOnes, task := none
      done := true } :=
  s.raiseErr_of_none c _ _ _ h

/-- First error wins (60_exceptions.md R226). -/
theorem State.raiseErr_err_of_some (s : State) (c : ErrCode) (r0 r1 p : Word) (h : s.err ≠ .none) :
    (s.raiseErr c r0 r1 p).err = s.err ∧ (s.raiseErr c r0 r1 p).errPos = s.errPos := by
  simp [State.raiseErr, h]

/-! ### Results -/

theorem resultWord_of_lt {n : Nat} (h : n < 2 ^ 32) : resultWord n = BitVec.ofNat 32 n := by
  simp only [resultWord, h, if_true]

@[simp] theorem resultWord_zero : resultWord 0 = 0#32 := rfl

/-- A byte as a result is its zero extension (30_encoding.md R91). -/
@[simp] theorem resultWord_byte (b : Byte) : resultWord b.toNat = b.setWidth 32 := by
  rw [resultWord_of_lt (by have := b.isLt; omega)]
  apply BitVec.eq_of_toNat_eq
  simp

end Sys2Proof.Machine
end

