-- ==== Sys2Proof/Laws/Engine.lean ====
section
/-!
SUPPORT. What the engine's operations can do: one pull of the edge primitive, the end of a cycle, an EMIT step, and the
engine's turn.
-/

namespace Sys2Proof.Machine

/-! ### The edge primitive -/

/-- A pull at a sign change returns the edge (42_edge_detector.md R145). -/
theorem edgePull_flip (s : State) (n : Nat) (x : Sample) (h : signFlip s.prevSample x = true) :
    edgePull s n x = ({ s with prevSample := x, prevHalf := edgeCorrected s.prevSample x },
      some (.edge (edgeDuration (n + 1) (edgeCorrected s.prevSample x) s.prevOffset) (n + 1))) := by
  simp [edgePull, h]

/-- A pull without a sign change below the timeout goes on (42_edge_detector.md R145). -/
theorem edgePull_more (s : State) (n : Nat) (x : Sample) (h : signFlip s.prevSample x = false)
    (hn : n + 1 ≠ Config.edgeTimeout s.cfgSampleRate.toNat) :
    edgePull s n x = ({ s with prevSample := x }, none) := by
  simp [edgePull, h, hn]

/-- The `N_E`-th pull without a sign change is the timeout (42_edge_detector.md R148). -/
theorem edgePull_timeout (s : State) (n : Nat) (x : Sample) (h : signFlip s.prevSample x = false)
    (hn : n + 1 = Config.edgeTimeout s.cfgSampleRate.toNat) :
    edgePull s n x = ({ s with prevSample := x, prevHalf := false },
      some (.timeout ((n + 1) * Config.edgeUnits) (n + 1))) := by
  simp [edgePull, h, ← hn]

/-- Everything a pull can do. -/
theorem edgePull_cases (s : State) (n : Nat) (x : Sample) :
    (signFlip s.prevSample x = true ∧ edgePull s n x =
        ({ s with prevSample := x, prevHalf := edgeCorrected s.prevSample x },
          some (.edge (edgeDuration (n + 1) (edgeCorrected s.prevSample x) s.prevOffset) (n + 1))))
      ∨ (signFlip s.prevSample x = false ∧ n + 1 = Config.edgeTimeout s.cfgSampleRate.toNat ∧ edgePull s n x =
        ({ s with prevSample := x, prevHalf := false }, some (.timeout ((n + 1) * Config.edgeUnits) (n + 1))))
      ∨ (signFlip s.prevSample x = false ∧ n + 1 ≠ Config.edgeTimeout s.cfgSampleRate.toNat
        ∧ edgePull s n x = ({ s with prevSample := x }, none)) := by
  cases h : signFlip s.prevSample x with
  | true => exact .inl ⟨rfl, edgePull_flip s n x h⟩
  | false =>
    by_cases hn : n + 1 = Config.edgeTimeout s.cfgSampleRate.toNat
    · exact .inr (.inl ⟨rfl, hn, edgePull_timeout s n x h hn⟩)
    · exact .inr (.inr ⟨rfl, hn, edgePull_more s n x h hn⟩)

/-- The carried correction is 0 or HALF (10_state.md R42). -/
theorem State.prevOffset_le (s : State) : s.prevOffset ≤ Config.half := by
  simp only [State.prevOffset]
  split <;> simp [Config.half]

/-- Every edge lasts at least HALF (42_edge_detector.md R151). -/
theorem half_le_edgeDuration (n : Nat) (c : Bool) (coff : Nat) (h : coff ≤ Config.half) :
    Config.half ≤ edgeDuration (n + 1) c coff := by
  simp only [edgeDuration, Config.half, Config.edgeUnits] at *
  omega

/-! ### The consumers of an edge -/

/-- A consumer sets the task itself: what stood there does not matter. -/
theorem onEdge_task (s : State) (k : Option Task) (use : EdgeUse) (e : EdgeOutcome) :
    onEdge { s with task := k } use e = onEdge s use e := by
  cases use with
  | report => cases e <;> rfl
  | sync forBlock acc =>
    simp only [onEdge, acquireEdge]
    cases syncEdge s.cfgSampleRate.toNat acc e with
    | more acc' => rfl
    | sync avg tot => cases forBlock <;> rfl
    | timedOut tot => rfl
  | first use =>
    cases e with
    | timeout d n => rfl
    | edge d n =>
      simp only [onEdge, bitFirstEdge]
      split <;> rfl
  | second f use =>
    simp only [onEdge, bitSecondEdge]
    cases classify s.baseline.toNat f (secondHalf e) with
    | none => rfl
    | some b =>
      cases use with
      | bit => rfl
      | byte i v => simp only [gotBit]; cases byteStep i v b <;> rfl
      | block pos num cs i v =>
        simp only [gotBit]
        cases byteStep i v b with
        | byte v' => simp only [blockByte]; repeat' split <;> first | rfl
        | more i' v' => rfl
        | framing => rfl
        | syncLoss => rfl

/-- An abort while a bit is decoded, in the statements' words (60_exceptions.md R225, 10_state.md R35). -/
theorem raiseErr_bitErrPos (s : State) (c : ErrCode) (r0 r1 : Word) (use : BitUse) :
    s.raiseErr c r0 r1 (bitErrPos use) = s.aborted c r0 r1 use.framePos := by
  cases use <;> rfl

/-- An abort at a frame position of DECODE_BLOCK. -/
theorem raiseErr_at (s : State) (c : ErrCode) (r0 r1 : Word) (pos : Nat) :
    s.raiseErr c r0 r1 (BitVec.ofNat 32 pos) = s.aborted c r0 r1 (some pos) := rfl

/-- A completion without a timeout, in the statements' words (60_exceptions.md R224). -/
theorem finish_eq_completed (s : State) (r0 r1 : Nat) :
    s.finish r0 r1 false = s.completed (resultWord r0) (resultWord r1) := rfl

/-! ### An EMIT step -/

/-- The state of an EMIT step after its Push and the advance of PHASE, before the command's own continuation. -/
def emitPushed (s : State) (pos : EmitPos) (p' : Nat) : State :=
  { s.push (toneSample s.cfgSampleRate.toNat s.phase.toNat
      (emitAmp s.cfgSampleRate.toNat s.cfgAmplitude.toNat s.phase.toNat pos)) with phase := BitVec.ofNat 32 p' }

/-- Everything an EMIT step can do (40_synthesis.md R115): the cycle goes on, or it ends with its residue. -/
theorem emitStep_cases (s : State) (pos : EmitPos) (n : Nat) :
    (s.phase.toNat + toneIncrement s.cfgBaseFreq.toNat (emitSymbol pos) < 4 * s.cfgSampleRate.toNat
        ∧ emitStep s pos n = (emitPushed s pos
            (s.phase.toNat + toneIncrement s.cfgBaseFreq.toNat (emitSymbol pos))).start (.emit pos (n + 1)))
      ∨ (4 * s.cfgSampleRate.toNat ≤ s.phase.toNat + toneIncrement s.cfgBaseFreq.toNat (emitSymbol pos)
        ∧ emitStep s pos n = endCycle (emitPushed s pos
            (s.phase.toNat + toneIncrement s.cfgBaseFreq.toNat (emitSymbol pos) - 4 * s.cfgSampleRate.toNat))
            pos (n + 1)) := by
  by_cases h : 4 * s.cfgSampleRate.toNat ≤ s.phase.toNat + toneIncrement s.cfgBaseFreq.toNat (emitSymbol pos)
  · exact .inr ⟨h, by simp [emitStep, emitPushed, h]⟩
  · exact .inl ⟨by omega, by simp [emitStep, emitPushed, h]⟩

/-! ### The engine's turn -/

theorem engineTurn_idle (s : State) (h : s.task = none) : engineTurn s = s := by simp [engineTurn, h]

theorem engineTurn_hold_push (s : State) (pos : EmitPos) (n : Nat) (h : s.task = some (.emit pos n))
    (hr : s.sinkRoom = 0) : engineTurn s = s := by simp [engineTurn, h, hr]

theorem engineTurn_hold_pull (s : State) (n : Nat) (use : EdgeUse) (h : s.task = some (.receive n use))
    (hr : s.source = []) : engineTurn s = s := by simp [engineTurn, h, hr]

theorem engineTurn_emit (s : State) (pos : EmitPos) (n : Nat) (h : s.task = some (.emit pos n))
    (hr : s.sinkRoom ≠ 0) : engineTurn s = emitStep s pos n := by simp [engineTurn, h, hr]

theorem engineTurn_receive (s : State) (n : Nat) (use : EdgeUse) (x : Sample) (rest : List Sample)
    (h : s.task = some (.receive n use)) (hr : s.source = x :: rest) :
    engineTurn s = receiveStep { s with source := rest } n use x := by simp [engineTurn, h, hr]

/-- Everything the engine's turn can do (20_memory.md R67, R68, 70_reset_and_hazards.md R251, R255). -/
theorem engineTurn_cases (s : State) :
    engineTurn s = s
      ∨ (∃ pos n, s.task = some (.emit pos n) ∧ s.sinkRoom ≠ 0 ∧ engineTurn s = emitStep s pos n)
      ∨ (∃ n use x rest, s.task = some (.receive n use) ∧ s.source = x :: rest
        ∧ engineTurn s = receiveStep { s with source := rest } n use x) := by
  suffices h : ∀ k l, s.task = k → s.source = l → engineTurn s = s
      ∨ (∃ pos n, s.task = some (.emit pos n) ∧ s.sinkRoom ≠ 0 ∧ engineTurn s = emitStep s pos n)
      ∨ (∃ n use x rest, s.task = some (.receive n use) ∧ s.source = x :: rest
        ∧ engineTurn s = receiveStep { s with source := rest } n use x) from h _ _ rfl rfl
  intro k l ht hs
  match k, l, ht, hs with
  | none, _, ht, _ => exact .inl (engineTurn_idle s ht)
  | some (.emit pos n), _, ht, _ =>
    by_cases hr : s.sinkRoom = 0
    · exact .inl (engineTurn_hold_push s pos n ht hr)
    · exact .inr (.inl ⟨pos, n, ht, hr, engineTurn_emit s pos n ht hr⟩)
  | some (.receive n use), [], ht, hs => exact .inl (engineTurn_hold_pull s n use ht hs)
  | some (.receive n use), x :: rest, ht, hs =>
    exact .inr (.inr ⟨n, use, x, rest, ht, hs, engineTurn_receive s n use x rest ht hs⟩)

end Sys2Proof.Machine
end

