-- ==== Sys2Proof/Laws/PerInstr.lean ====
section
/-!
SUPPORT. Statements about every command as syntax, one lemma per constructor.

`EncodedFields`: the encoding of a command has its reserved bits 0, its opcode in bits 7:0 and its operand in bits 15:8
(30_encoding.md R80, R81, R82).
-/

namespace Sys2Proof.Laws.EncodedFields

/-- The three fields of the command's encoding (30_encoding.md R80). -/
def Statement (i : Instr) : Prop :=
  reservedField (encode i) = 0#16 ∧ opcField (encode i) = opcodeOf i ∧ immField (encode i) = immOf i

/-- The fields of `{16'b0, imm, opc}`. -/
theorem fields_of_append (imm opc : Byte) :
    reservedField (0#16 ++ imm ++ opc) = 0#16 ∧ opcField (0#16 ++ imm ++ opc) = opc
      ∧ immField (0#16 ++ imm ++ opc) = imm := by
  refine ⟨?_, ?_, ?_⟩ <;>
    (apply BitVec.eq_of_getLsbD_eq
     intro j hj
     simp only [reservedField, opcField, immField, BitVec.getLsbD_extractLsb', BitVec.getLsbD_append,
       BitVec.getLsbD_zero, hj, decide_true, Bool.true_and])
  · rw [if_neg (by omega)]
    split
    · omega
    · rfl
  · rw [if_pos (by omega), Nat.zero_add]
  · rw [if_neg (by omega), if_pos (by omega), Nat.add_sub_cancel_left]

theorem nop : Statement .nop := fields_of_append _ _
theorem cos : Statement .cos := fields_of_append _ _
theorem emitBit (imm : Byte) : Statement (.emitBit imm) := fields_of_append _ _
theorem emitByte (b : Byte) : Statement (.emitByte b) := fields_of_append _ _
theorem emitBlock (num : Byte) : Statement (.emitBlock num) := fields_of_append _ _
theorem emitRamp (imm : Byte) : Statement (.emitRamp imm) := fields_of_append _ _
theorem nextEdge : Statement .nextEdge := fields_of_append _ _
theorem acquireSync : Statement .acquireSync := fields_of_append _ _
theorem decodeBit : Statement .decodeBit := fields_of_append _ _
theorem decodeByte : Statement .decodeByte := fields_of_append _ _
theorem decodeBlock : Statement .decodeBlock := fields_of_append _ _
theorem seqInit : Statement .seqInit := fields_of_append _ _
theorem seqCheck (n : Byte) : Statement (.seqCheck n) := fields_of_append _ _

end Sys2Proof.Laws.EncodedFields
end

