-- ==== Sys2Proof/Laws/Step.lean ====
section
/-!
SUPPORT. What a step can do: the move it performs, and for a host access which of the port's paths it takes.
-/

namespace Sys2Proof.Machine

theorem step_engine_default (s : State) (h : s.moves = []) : step s = .next (engineTurn s) := by simp [step, h]

theorem step_move (s : State) (m : Move) (rest : List Move) (h : s.moves = m :: rest) :
    step s = perform m { s with moves := rest } := by simp [step, h]

/-- A run of the machine goes on from the state its first step answers. -/
theorem core_run_succ {s t : State} (k : Nat) (h : step s = .next t) :
    Sys2Proof.core.run (k + 1) s = Sys2Proof.core.run k t := by
  have h' : Sys2Proof.core.step s = .next t := h
  simp only [Host.Core.run, h']

/-- The step of a receive command on an offered sample, no move being listed. -/
theorem step_receive (s : State) (n : Nat) (use : EdgeUse) (x : Sample) (rest : List Sample)
    (ht : s.task = some (.receive n use)) (hm : s.moves = []) (hx : s.source = x :: rest) :
    step s = .next (receiveStep { s with source := rest } n use x) := by
  rw [step_engine_default s hm, engineTurn_receive s n use x rest ht hx]

/-- That step on a sample of PREV_SAMPLE's sign, short of the timeout: `edge()` goes on (42_edge_detector.md R145). -/
theorem step_receive_more (s : State) (n : Nat) (use : EdgeUse) (x : Sample) (rest : List Sample)
    (ht : s.task = some (.receive n use)) (hm : s.moves = []) (hx : s.source = x :: rest)
    (hs : neg x.toInt = neg s.prevSample.toInt) (hn : n + 1 ≠ Config.edgeTimeout s.cfgSampleRate.toNat) :
    step s = .next { s with source := rest, prevSample := x, task := some (.receive (n + 1) use) } := by
  rw [step_receive s n use x rest ht hm hx]
  simp only [receiveStep]
  rw [edgePull_more { s with source := rest } n x (by simp [signFlip, hs]) hn]
  rfl

/-- A CMD write issues its word. -/
theorem hostStep_cmd (s : State) (w : Word) : hostStep (.write cmdOffset .word w) s = issueWord w s := by
  simp [hostStep, Access.cmdWord?]

/-- The accesses that issue a command are the 4-byte writes at CMD's offset. -/
theorem Access.cmdWord?_eq_some {a : Access} {w : Word} (h : a.cmdWord? = some w) : a = .write cmdOffset .word w := by
  cases a with
  | read addr size => simp [Access.cmdWord?] at h
  | write addr size v =>
    cases size with
    | byte => simp [Access.cmdWord?] at h
    | half => simp [Access.cmdWord?] at h
    | word =>
      simp only [Access.cmdWord?] at h
      split at h
      · rename_i heq
        cases h
        rw [heq]
      · simp at h

/-- What each command does once the issue checks pass. -/
def commandBody : Instr → State → State
  | .nop => runNop
  | .cos => runCos
  | .emitBit imm => runEmitBit imm
  | .emitByte b => runEmitByte b
  | .emitBlock num => runEmitBlock num
  | .emitRamp imm => runEmitRamp imm
  | .nextEdge => runNextEdge
  | .acquireSync => runAcquireSync
  | .decodeBit => runDecodeBit
  | .decodeByte => runDecodeByte
  | .decodeBlock => runDecodeBlock
  | .seqInit => runSeqInit
  | .seqCheck n => runSeqCheck n

/-- Every meaning goes through the issue checks. -/
theorem exec_eq_issue (i : Instr) (s : State) : exec i s = s.issue (commandBody i) := by
  cases i <;> rfl

theorem exec_ready (i : Instr) (s : State) (hb : s.busy = false) (he : s.err = .none) :
    exec i s = .next (commandBody i s) := by
  rw [exec_eq_issue, s.issue_ready _ hb he]

/-- So does the CMD write of any word. -/
theorem issueWord_eq_issue (w : Word) (s : State) : ∃ run : State → State, issueWord w s = s.ack.issue run := by
  unfold issueWord
  split
  · exact ⟨_, exec_eq_issue _ _⟩
  · exact ⟨_, rfl⟩

/-- Everything a step can do, in terms of its next move. -/
theorem step_cases {s t : State} (h : step s = .next t) :
    (s.moves = [] ∧ t = engineTurn s)
      ∨ ∃ rest, (s.moves = .engine :: rest ∧ t = engineTurn { s with moves := rest })
        ∨ (∃ x, s.moves = .offer x :: rest ∧ t = { s with moves := rest, source := s.source ++ [x] })
        ∨ (s.moves = .accept :: rest ∧ t = { s with moves := rest, sinkRoom := s.sinkRoom + 1 })
        ∨ (s.moves = .powerOn :: rest ∧ t = State.powerOn { s with moves := rest })
        ∨ (∃ w, s.moves = .host (.write cmdOffset .word w) :: rest
          ∧ issueWord w { s with moves := rest } = .next t)
        ∨ (∃ a, s.moves = .host a :: rest ∧ a.cmdWord? = none ∧ t = hostPort { s with moves := rest } a) := by
  cases hm : s.moves with
  | nil =>
    rw [step_engine_default s hm] at h
    cases h
    exact .inl ⟨rfl, rfl⟩
  | cons m rest =>
    rw [step_move s m rest hm] at h
    refine .inr ⟨rest, ?_⟩
    cases m with
    | engine => cases h; exact .inl ⟨rfl, rfl⟩
    | offer x => cases h; exact .inr (.inl ⟨x, rfl, rfl⟩)
    | accept => cases h; exact .inr (.inr (.inl ⟨rfl, rfl⟩))
    | powerOn => cases h; exact .inr (.inr (.inr (.inl ⟨rfl, rfl⟩)))
    | host a =>
      simp only [perform, hostStep] at h
      cases hw : a.cmdWord? with
      | none =>
        rw [hw] at h
        cases h
        exact .inr (.inr (.inr (.inr (.inr ⟨a, rfl, hw, rfl⟩))))
      | some w =>
        rw [hw] at h
        exact .inr (.inr (.inr (.inr (.inl ⟨w, by rw [Access.cmdWord?_eq_some hw], h⟩))))

end Sys2Proof.Machine
end

