-- ==== Sys2Proof/Tests/Slice0.lean ====
section
/-!
SUPPORT. The model's own tests: ill-formed terms refused, words written out from 30_encoding.md R80 to R84, one step per
test with the numbers of 95_test_vectors.md, and for each statement with hypotheses a state and operands that meet them.
-/

namespace Sys2Proof.Tests

open Sys2Proof.Machine

/-! ### Helpers -/

/-- The next state of an outcome. -/
def nextOf : Outcome → Option State
  | .next t => some t
  | .fault _ => none
  | .refused _ => none

/-- `f` of the state after one step. -/
def afterStep {α : Type} (s : State) (f : State → α) : Option α := (nextOf (step s)).map f

/-- `f` of the state after the CMD write of the word `w`. -/
def afterWord {α : Type} (s : State) (w : Nat) (f : State → α) : Option α := afterStep (s.withFetchWord 32 w) f

/-- `f` of the state after a 4-byte write of `v` at `addr`. -/
def afterWrite {α : Type} (s : State) (addr : BitVec 12) (v : Word) (f : State → α) : Option α :=
  afterStep { s with moves := [.host (.write addr .word v)] } f

/-- The answer to one read. -/
def answerOf (s : State) (addr : BitVec 12) (size : AccessSize) : Option Response :=
  afterStep { s with moves := [.host (.read addr size)] } fun t => t.response

/-- After reset, at 9600 samples per second. -/
def at9600 : State := { State.reset with cfgSampleRate := 9600#32 }

/-- The Modulator command at `pos` with `n` samples pushed, PHASE at `p`, and a sink ready for one sample. -/
def emitting (s : State) (pos : EmitPos) (n p : Nat) : State :=
  { s with task := some (.emit pos n), phase := BitVec.ofNat 32 p, sinkRoom := 1 }

/-- The receive command waiting in `edge()` for `use` with `n` samples pulled, PREV_SAMPLE `prev`, and `x` offered. -/
def pulling (s : State) (use : EdgeUse) (n : Nat) (prev x : Int) : State :=
  { s with
    task := some (.receive n use), prevSample := BitVec.ofInt 16 prev, source := [BitVec.ofInt 16 x] }

/-- After reset with BASELINE = 2560 acquired. -/
def tuned : State := { State.reset with baseline := 2560#32, baselineValid := true }

/-! ### Ill-formed commands (30_encoding.md R83) -/

theorem test_emitBit_code3_is_illFormed : ¬ (Instr.emitBit 3#8).WellFormed := by decide
theorem test_emitBit_code2_is_wellFormed : (Instr.emitBit 2#8).WellFormed := by decide
theorem test_emitRamp_code2_is_illFormed : ¬ (Instr.emitRamp 2#8).WellFormed := by decide
theorem test_emitRamp_code1_is_wellFormed : (Instr.emitRamp 1#8).WellFormed := by decide

/-! ### Words written out from the encoding: 16 reserved bits, IMM8, OPC (30_encoding.md R80, R82) -/

theorem test_decode_nop : decode 0b00000000000000000000000000000000#32 = .ok .nop := by rfl
theorem test_decode_cos : decode 0b00000000000000000000000000000001#32 = .ok .cos := by rfl
theorem test_decode_emitBit : decode 0b00000000000000000000000100000010#32 = .ok (.emitBit 1#8) := by rfl
theorem test_decode_emitByte : decode 0b00000000000000000100000100000011#32 = .ok (.emitByte 0x41#8) := by rfl
theorem test_decode_emitBlock : decode 0b00000000000000001111111100000100#32 = .ok (.emitBlock 0xFF#8) := by rfl
theorem test_decode_emitRamp : decode 0b00000000000000000000000100000101#32 = .ok (.emitRamp 1#8) := by rfl
theorem test_decode_nextEdge : decode 0b00000000000000000000000000001000#32 = .ok .nextEdge := by rfl
theorem test_decode_acquireSync : decode 0b00000000000000000000000000001001#32 = .ok .acquireSync := by rfl
theorem test_decode_decodeBit : decode 0b00000000000000000000000000001010#32 = .ok .decodeBit := by rfl
theorem test_decode_decodeByte : decode 0b00000000000000000000000000001011#32 = .ok .decodeByte := by rfl
theorem test_decode_decodeBlock : decode 0b00000000000000000000000000001100#32 = .ok .decodeBlock := by rfl
theorem test_decode_seqInit : decode 0b00000000000000000000000000010000#32 = .ok .seqInit := by rfl
theorem test_decode_seqCheck : decode 0b00000000000000000000011100010001#32 = .ok (.seqCheck 7#8) := by rfl

/-- Reserved bit 16 set (95_test_vectors.md 2.13). -/
theorem test_decode_reserved : decode 0x00010000#32 = .error .reservedBits := by rfl

/-- The unassigned opcodes of 95_test_vectors.md 2.13. -/
theorem test_decode_unassigned :
    [0x00000006#32, 0x00000007#32, 0x0000000D#32, 0x00000012#32, 0x000000FF#32].map decode
      = List.replicate 5 (.error .unassignedOpcode) := by rfl

/-- Illegal immediates (95_test_vectors.md 2.2, 2.5, 2.13). -/
theorem test_decode_illegal_immediate :
    [0x00000100#32, 0x00000109#32, 0x00000302#32, 0x00000205#32].map decode
      = List.replicate 4 (.error .illegalImmediate) := by rfl

theorem test_decodeTableWord : decodeTableWord 32 0x00004103 = some (.emitByte 0x41#8) := by rfl
theorem test_decodeTableWord_reserved : decodeTableWord 32 0x00010000 = none := by rfl

/-! ### Immediate commands (95_test_vectors.md 2.1, 2.12, 2.13) -/

theorem test_nop_finishes :
    afterWord { State.reset with result0 := 7#32, timeout := true } 0x00000000 (fun t => (t.result0, t.timeout, t.done))
      = some (0#32, false, true) := by decide

theorem test_cos_value :
    afterWord { State.reset with arg0 := 6000#32, arg1 := 32767#32 } 0x00000001 (fun t => t.result0)
      = some 30272#32 := by decide

theorem test_cos_out_of_range :
    afterWord { State.reset with arg0 := 24001#32, arg1 := 1#32 } 0x00000001 (fun t => (t.result0, t.err))
      = some (0#32, .range) := by decide

theorem test_seqInit :
    afterWord { State.reset with expected := 9#8, final := true } 0x00000010 (fun t => (t.result0, t.seqStateWord))
      = some (1#32, 1#32) := by decide

theorem test_seqCheck_final :
    afterWord { State.reset with expected := 3#8 } 0x0000FF11 (fun t => (t.result0, t.result1, t.seqStateWord))
      = some (0xFF#32, 3#32, 0x103#32) := by decide

theorem test_seqCheck_mismatch :
    afterWord { State.reset with expected := 3#8 } 0x00000511 (fun t => (t.result0, t.result1, t.err, t.seqStateWord))
      = some (5#32, 3#32, .sequence, 3#32) := by decide

/-! ### Modulator commands (95_test_vectors.md 1.2, 2.2 to 2.5) -/

/-- The third sample of a ONE cycle at 9600 is 16384. -/
theorem test_emitBit_sample :
    afterStep (emitting at9600 (.bit .one) 2 9600) (fun t => t.pushed) = some [16384#16] := by decide

theorem test_emitBit_illegal_code :
    afterWord State.reset 0x00000302 (fun t => (t.err, t.pushed)) = some (.illegalCmd, []) := by decide

/-- Bit 0 of 0x41 is ONE: its first sample advances PHASE by `8 * 600`. -/
theorem test_emitByte_least_significant_bit_first :
    afterStep (emitting at9600 (.byte 0x41#8 0) 0 0) (fun t => t.phase) = some 4800#32 := by decide

/-- The last of the 56 samples of 0x41 at 9600 ends its TERMINATOR. -/
theorem test_emitByte_last_sample :
    afterStep (emitting at9600 (.byte 0x41#8 8) 55 36000) (fun t => (t.pushed, t.result0, t.phase, t.busy))
      = some ([BitVec.ofInt 16 (-6269)], 56#32, 0#32, false) := by decide

theorem test_emitBlock_takes_first_pending :
    afterWord State.reset 0x00000104 (fun t => (t.firstPending, t.busy)) = some (false, true) := by decide

/-- The last of the 46700 samples of the later block 2 with payload 1..128. -/
theorem test_emitBlock_last_sample :
    afterStep (emitting State.reset (.frame 129 0x40#8 8 0x40#8) 46699 189600) (fun t => (t.result0, t.result1, t.busy))
      = some (46700#32, 0x40#32, false) := by decide

/-- The second sample of EMIT_RAMP UP at 9600 is 111. -/
theorem test_emitRamp_sample :
    afterStep (emitting { at9600 with txActive := true } (.ramp .up 0) 1 4800) (fun t => t.pushed)
      = some [111#16] := by decide

theorem test_emitRamp_up_twice :
    afterWord { State.reset with txActive := true } 0x00000005 (fun t => (t.err, t.result0, t.txActive))
      = some (.txState, 0#32, true) := by decide

/-! ### Receive commands (95_test_vectors.md 1.4, 1.8, 2.6 to 2.9) -/

/-- 100, 200, -50 from reset: d = 448 after 3 samples, EDGE_STATE = 0x0040FFCE. -/
theorem test_nextEdge_corrected :
    afterStep (pulling State.reset .report 2 200 (-50)) (fun t => (t.result0, t.result1, t.timeout, t.edgeStateWord))
      = some (448#32, 3#32, false, 0x0040FFCE#32) := by decide

/-- 400 samples of one sign with PREV_OFFSET = 64 before: d = 48128 after 376 samples, PREV_OFFSET 0. -/
theorem test_nextEdge_timeout :
    afterStep (pulling { State.reset with prevHalf := true } .report 375 400 400)
        (fun t => (t.result0, t.result1, t.timeout, t.edgeStateWord))
      = some (48128#32, 376#32, true, 0x00000190#32) := by decide

/-- 17 ONE cycles (34 edges, 87232 units) and a TERMINATOR: baseline 2566 after 97472 units. -/
theorem test_acquireSync_transition :
    syncEdge 48000 ⟨34, 87232, 87232, none⟩ (.edge 5184 41) = .more ⟨34, 87232, 92416, some 2566⟩
      ∧ syncEdge 48000 ⟨34, 87232, 92416, some 2566⟩ (.edge 5056 40) = .sync 2566 97472 := by decide

/-- The 383rd silent edge of 48128 units spends the budget of 18432000. -/
theorem test_acquireSync_timeout :
    afterStep (pulling State.reset (.sync false ⟨0, 0, 382 * 48128, none⟩) 375 0 0)
        (fun t => (t.result0, t.result1, t.timeout, t.baselineValid))
      = some (0#32, 18433024#32, true, false) := by decide

/-- Rows of the classification table at B = 2560. -/
theorem test_decodeBit_bands :
    [classify 2560 1600 (some 1280), classify 2560 1601 (some 1280), classify 2560 1280 (some 1707),
        classify 2560 3200 (some 2560), classify 2560 2560 (some 3414), classify 2560 5120 none, classify 2560 2560 none]
      = [some .zero, none, none, some .one, none, some .terminator, none] := by decide

/-- 959 is outside the sanity window, 960 inside. -/
theorem test_decodeBit_sanity_window : saneFirst 2560 959 = false ∧ saneFirst 2560 960 = true := by decide

/-- ONE, ZERO, ONE, TERMINATOR: FRAMING with bit index 3 and bits 5. -/
theorem test_decodeByte_framing :
    (fun t : State => (t.result0, t.result1, t.err)) (onEdge tuned (.second 5184 (.byte 3 5#8)) (.edge 5056 40))
      = (3#32, 5#32, .framing) := by decide

/-- ONE nine times: SYNC_LOSS with the ninth bit's code 1 and 0xFF. -/
theorem test_decodeByte_sync_loss :
    (fun t : State => (t.result0, t.result1, t.err)) (onEdge tuned (.second 2560 (.byte 8 0xFF#8)) (.edge 2560 20))
      = (1#32, 0xFF#32, .syncLoss) := by decide

/-- The received checksum 0x40 against the computed 0x41. -/
theorem test_decodeBlock_checksum :
    (fun t : State => (t.result0, t.result1, t.err, t.errPos))
        (onEdge tuned (.second 5120 (.block 129 2#8 0x41#8 8 0x40#8)) (.edge 5120 40))
      = (0x40#32, 0x41#32, .checksum, 129#32) := by decide

/-- Payload byte 5 (frame position 6) is written to Buf as it is decoded, and the sum goes on. -/
theorem test_decodeBlock_stores_progressively :
    (fun t : State => (t.buf 5, t.task)) (onEdge tuned (.second 5120 (.block 6 2#8 15#8 8 7#8)) (.edge 5120 40))
      = (7#8, some (.receive 0 (.first (.block 7 2#8 22#8 0 0#8)))) := by decide

/-! ### The host port and the configuration (95_test_vectors.md 2.13 to 2.15) -/

theorem test_read_id : answerOf State.reset 0x000#12 .word = some (.data 0x4B430001#32) := by decide

/-- `WRW 0, 0x03020100` and then a 2-byte read at 0x102. -/
theorem test_buffer_halfword :
    (hostPort (hostPort State.reset (.write 0x100#12 .word 0x03020100#32)) (.read 0x102#12 .half)).response
      = .data 0x0302#32 := by decide

theorem test_buffer_misaligned : answerOf State.reset 0x101#12 .half = some .busError := by decide
theorem test_register_byte_access : answerOf State.reset 0x008#12 .byte = some .busError := by decide
theorem test_unmapped_offset : answerOf State.reset 0x024#12 .word = some .busError := by decide

theorem test_sampleRate_at_its_lower_bound :
    (afterWrite State.reset 0x040#12 9600#32 (fun t => t.err), afterWrite State.reset 0x040#12 9599#32 (fun t => t.err))
      = (some .none, some .cfgInvalid) := by decide

theorem test_cfgSeq_masks :
    afterWrite State.reset 0x050#12 0xFFFFFFFF#32 (fun t => t.cfgSeqWord) = some 0x0000FF01#32 := by decide

theorem test_amplitude_locked_in_a_transmission :
    afterWrite { State.reset with txActive := true } 0x048#12 1000#32 (fun t => (t.err, t.cfgAmplitude))
      = some (.cfgLocked, 16384#32) := by decide

/-! ### Witnesses: states and operands that meet the hypotheses of the statements, at their boundaries -/

/-- The smallest legal sample rate: cycles of 4, 8 and 16 samples, `N_E = 1`. -/
def small : State := { State.reset with cfgSampleRate := 16#32, cfgBaseFreq := 1#32, sinkRoom := 100000 }

/-- A rate with `N_E = 2`. -/
def rate128 : State := { State.reset with cfgSampleRate := 128#32, cfgBaseFreq := 8#32 }

/-- A command is running. -/
def running : State := { State.reset with task := some (.emit (.bit .one) 0) }

/-- An error stands. -/
def erred : State := { State.reset with err := .range }

/-- The host's coming access is a 4-byte write. -/
def writing (s : State) (addr : BitVec 12) (v : Word) : State := { s with moves := [.host (.write addr .word v)] }

theorem witness_DecodeOfEncodeIsTheCommand :
    (Instr.emitBit 2#8).WellFormed ∧ (Instr.emitRamp 1#8).WellFormed ∧ (Instr.seqCheck 0xFF#8).WellFormed := by decide

theorem witness_DecodedWordIsItsEncoding : decode 0x0000FF04#32 = .ok (.emitBlock 0xFF#8) := by rfl

/-- Legal words beside the listed illegal ones. -/
theorem witness_WordIsIllegalExactlyWhenListed :
    decode 0x0000000C#32 = .ok .decodeBlock ∧ decode 0x0000000F#32 = .error .unassignedOpcode
      ∧ decode 0x0000FF11#32 = .ok (.seqCheck 0xFF#8) ∧ decode 0x00000110#32 = .error .illegalImmediate
      ∧ decode 0x00000202#32 = .ok (.emitBit 2#8) ∧ decode 0x00000105#32 = .ok (.emitRamp 1#8) := by
  refine ⟨?_, ?_, ?_, ?_, ?_, ?_⟩ <;> rfl

theorem witness_StepIssuesTheDecodedCommand :
    (State.reset.withFetchWord 32 0x00000202).moves = .host (.write cmdOffset .word 0x00000202#32) :: []
      ∧ decode 0x00000202#32 = .ok (.emitBit 2#8) := ⟨rfl, rfl⟩

theorem witness_IllegalWordRaisesIllegalCmd :
    (State.reset.withFetchWord 32 0x00000302).moves = .host (.write cmdOffset .word 0x00000302#32) :: []
      ∧ decode 0x00000302#32 = .error .illegalImmediate ∧ (State.reset.withFetchWord 32 0x00000302).Ready :=
  ⟨rfl, rfl, by decide⟩

theorem witness_CmdWriteWhileBusyIsDropped :
    (running.withFetchWord 32 0).moves = .host (.write cmdOffset .word 0#32) :: []
      ∧ (running.withFetchWord 32 0).busy = true := ⟨rfl, rfl⟩

theorem witness_CmdWriteUnderErrorIsRefused :
    (erred.withFetchWord 32 0).moves = .host (.write cmdOffset .word 0#32) :: []
      ∧ (erred.withFetchWord 32 0).busy = false ∧ (erred.withFetchWord 32 0).err ≠ .none := ⟨rfl, rfl, by decide⟩

/-- A command outside each exception of the statement: EMIT_RAMP DOWN is none of EMIT_RAMP UP, SEQ_INIT, SEQ_CHECK,
EMIT_BLOCK. -/
theorem witness_CommandWriteFrame :
    (∃ t, exec (.emitRamp 1#8) { State.reset with txActive := true } = .next t) ∧ Instr.emitRamp 1#8 ≠ .emitRamp 0#8 :=
  ⟨⟨_, rfl⟩, by decide⟩

/-- One state for each case of the CMD write: dropped, refused, complete. -/
theorem witness_NopCompletes :
    running.busy = true ∧ (erred.busy = false ∧ erred.err ≠ .none) ∧ State.reset.Ready := by decide

/-- The end of the range, and the first values beyond it. -/
theorem witness_CosGivesTheCosineOrRange :
    let s : State := { State.reset with arg0 := 24000#32, arg1 := 32767#32 }
    let t : State := { State.reset with arg0 := 0#32, arg1 := 32768#32 }
    let u : State := { State.reset with arg0 := 24001#32, arg1 := 1#32 }
    (s.Ready ∧ s.arg1.toNat ≤ 32767 ∧ 2 * s.arg0.toNat ≤ s.cfgSampleRate.toNat) ∧ (t.Ready ∧ 32767 < t.arg1.toNat)
      ∧ (u.Ready ∧ u.cfgSampleRate.toNat < 2 * u.arg0.toNat) := by decide

theorem witness_CosineEndsAndBound : 1 ≤ 1 ∧ 32767 ≤ 32767 := by decide

theorem witness_ToneSampleIsSineShaped : 1 ≤ 16 ∧ 32767 ≤ 32767 ∧ 31 < 2 * 16 ∧ 2 * 16 ≤ 32 := by decide

theorem witness_SeqInitStartsTheSequence : (State.reset).Ready := by decide

/-- A ready state for each branch: PASSTHROUGH, FINAL, 0xFF, the expected number, any other. -/
theorem witness_SeqCheckFollowsThePolicy :
    let s1 : State := { State.reset with passthrough := true }
    let s2 : State := { State.reset with final := true }
    (s1.Ready ∧ s1.passthrough = true) ∧ (s2.Ready ∧ s2.passthrough = false ∧ s2.final = true)
      ∧ (State.reset.Ready ∧ State.reset.passthrough = false ∧ State.reset.final = false
        ∧ State.reset.expected = 1#8 ∧ (2#8 : Byte) ≠ 0xFF#8 ∧ (2#8 : Byte) ≠ State.reset.expected) := by decide

theorem witness_StreamCommandStartsBusy :
    tuned.Ready ∧ bitValueOfCode? 2#8 = some .terminator ∧ tuned.baselineValid = true := by decide

theorem witness_EmitBlockTakesTheFirstBlockFlag :
    let later : State := { State.reset with firstPending := false }
    let bare : State := { State.reset with cfgLeadin := 0#32 }
    (later.Ready ∧ later.firstPending = false)
      ∧ (State.reset.Ready ∧ State.reset.firstPending = true ∧ State.reset.cfgLeadin ≠ 0#32)
      ∧ (bare.Ready ∧ bare.firstPending = true ∧ bare.cfgLeadin = 0#32) := by decide

theorem witness_EmitRampBracketsATransmission :
    let sending : State := { State.reset with txActive := true }
    (State.reset.Ready ∧ State.reset.txActive = false) ∧ (sending.Ready ∧ sending.txActive = true) := by decide

theorem witness_DecodeWithoutBaselineRaises : State.reset.Ready ∧ State.reset.baselineValid = false := by decide

/-- The cycle starts at the last phase before a wrap. -/
theorem witness_EmitBitSendsOneCycle :
    let s : State := { small with phase := 63#32, sinkRoom := 1 }
    bitValueOfCode? 0#8 = some .zero ∧ s.Ready ∧ s.cfgLegal = true ∧ s.phaseLegal = true ∧ s.moves = []
      ∧ (cycleSamples 16 16 (fun _ => s.cfgAmplitude.toNat) 63).length ≤ s.sinkRoom := by decide

theorem witness_EmitByteSendsItsByteFrame :
    small.Ready ∧ small.cfgLegal = true ∧ small.phaseLegal = true ∧ small.moves = []
      ∧ (small.tones (byteFrame 0x41#8)).length ≤ small.sinkRoom := by decide

/-- A cycle of increment at least 1 has at most `4*fs` samples, whatever its phase. -/
theorem cycleLength_le {fs inc : Nat} (p : Nat) (h : 1 ≤ inc) : cycleLength fs inc p ≤ 4 * fs := by
  refine Nat.le_of_lt_succ ((Nat.div_lt_iff_lt_mul h).2 ?_)
  calc 4 * fs - p + (inc - 1) < (4 * fs) * 1 + inc := by omega
    _ ≤ (4 * fs) * inc + inc := Nat.add_le_add_right (Nat.mul_le_mul_left _ h) _
    _ = (4 * fs).succ * inc := (Nat.succ_mul _ _).symm

/-- So `n` symbols have at most `n * 4*fs` samples. -/
theorem toneSamples_length_le (fs f0 a : Nat) (h : 1 ≤ f0) (vs : List BitValue) (p : Nat) :
    (toneSamples fs f0 a p vs).length ≤ vs.length * (4 * fs) := by
  induction vs generalizing p with
  | nil => simp [toneSamples]
  | cons v vs ih =>
    have hc : cycleLength fs (toneIncrement f0 v) p ≤ 4 * fs :=
      cycleLength_le p (by cases v <;> simp only [toneIncrement] <;> omega)
    have ht := ih (cycleEnd fs (toneIncrement f0 v) p)
    rw [List.length_cons, Nat.succ_mul]
    simp only [toneSamples, cycleSamples, List.length_append, List.length_map, List.length_range]
    omega

theorem byteFrame_length (b : Byte) : (byteFrame b).length = 9 := by simp [byteFrame]

theorem blockFrame_length (cnt : Nat) (num : Byte) (payload : List Byte) :
    (blockFrame cnt num payload).length = cnt + 19 + 9 * payload.length := by
  simp only [blockFrame, List.length_append, List.length_replicate, List.length_flatMap, byteFrame_length,
    List.length_singleton, List.map_const', List.sum_replicate_nat]
  omega

/-- The first block of a stream, with an unwritten buffer. -/
theorem witness_EmitBlockSendsItsBlockFrame :
    let s : State := { small with sinkRoom := 200000 }
    s.Ready ∧ s.cfgLegal = true ∧ s.phaseLegal = true ∧ s.moves = []
      ∧ (s.tones (blockFrame s.preambleLength 1#8 s.payload)).length ≤ s.sinkRoom := by
  refine ⟨by decide, by decide, by decide, rfl, ?_⟩
  refine le_trans (toneSamples_length_le 16 1 16384 (by decide) _ _) ?_
  rw [blockFrame_length, show (State.payload { small with sinkRoom := 200000 }).length = 128 by simp [State.payload,
    Config.payloadBytes]]
  decide

/-- Both directions. -/
theorem witness_EmitRampSendsTwoCycles :
    let s : State := { small with txActive := true, phase := 7#32 }
    (small.Ready ∧ small.cfgLegal = true ∧ small.phaseLegal = true ∧ small.moves = []
        ∧ small.txActive = decide (Direction.up = .down)
        ∧ cycleLength 16 8 0 + cycleLength 16 8 (cycleEnd 16 8 0) ≤ small.sinkRoom)
      ∧ (s.Ready ∧ s.cfgLegal = true ∧ s.phaseLegal = true ∧ s.moves = []
        ∧ s.txActive = decide (Direction.down = .down)
        ∧ cycleLength 16 8 7 + cycleLength 16 8 (cycleEnd 16 8 7) ≤ s.sinkRoom) := by decide

/-- The edge arrives with the last sample before the timeout. -/
theorem witness_NextEdgeMeasuresAnEdge :
    let s : State := { rate128 with source := [100#16, BitVec.ofInt 16 (-50), 7#16] }
    s.Ready ∧ s.cfgLegal = true ∧ s.moves = [] ∧ s.source = [100#16] ++ BitVec.ofInt 16 (-50) :: [7#16]
      ∧ sameSign s.prevSample [100#16] = true
      ∧ neg (BitVec.ofInt 16 (-50)).toInt ≠ neg s.prevSample.toInt
      ∧ [100#16].length + 1 ≤ s.cfgSampleRate.toNat / 128 + 1 := by decide

theorem witness_NextEdgeTimesOutInSilence :
    let s : State := { rate128 with source := [100#16, 0#16, 7#16] }
    s.Ready ∧ s.cfgLegal = true ∧ s.moves = [] ∧ s.source = [100#16, 0#16] ++ [7#16]
      ∧ sameSign s.prevSample [100#16, 0#16] = true
      ∧ [100#16, 0#16].length = s.cfgSampleRate.toNat / 128 + 1 := by decide

/-- The edge arrives with the last sample before the timeout, and the timeout with the `N_E`-th sample. -/
theorem witness_EdgeReachesItsConsumer :
    let s : State := { rate128 with
      task := some (.receive 0 (.sync true .start)), source := [100#16, BitVec.ofInt 16 (-50), 7#16] }
    let u : State := { s with source := [100#16, 0#16, 7#16] }
    (s.task = some (.receive 0 (.sync true .start)) ∧ s.moves = [] ∧ sameSign s.prevSample [100#16] = true
        ∧ s.source = [100#16] ++ BitVec.ofInt 16 (-50) :: [7#16]
        ∧ neg (BitVec.ofInt 16 (-50)).toInt ≠ neg s.prevSample.toInt
        ∧ [100#16].length + 1 ≤ s.cfgSampleRate.toNat / 128 + 1)
      ∧ (u.task = some (.receive 0 (.sync true .start)) ∧ u.moves = [] ∧ sameSign u.prevSample [100#16, 0#16] = true
        ∧ u.source = [100#16, 0#16] ++ [7#16] ∧ [100#16, 0#16].length = u.cfgSampleRate.toNat / 128 + 1) := by decide

/-- The case of each edge of an acquisition, at the boundaries of the tests (43_synchronizer.md R161 to R165). -/
theorem witness_AcquisitionTakesOneEdge :
    syncEdge 100 ⟨0, 0, 38000, none⟩ (.timeout 400 3) = .more ⟨0, 0, 38400, none⟩
      ∧ syncEdge 100 ⟨0, 0, 38000, none⟩ (.edge 401 3) = .timedOut 38401
      ∧ syncEdge 9600 ⟨40, 40000, 40000, none⟩ (.edge 1250 9) = .more ⟨41, 41250, 41250, none⟩
      ∧ syncEdge 9600 ⟨40, 40000, 40000, none⟩ (.edge 1251 9) = .more ⟨0, 0, 41251, none⟩
      ∧ syncEdge 9600 ⟨33, 33000, 33000, none⟩ (.edge 2000 9) = .more ⟨33, 33000, 35000, some 1000⟩
      ∧ syncEdge 9600 ⟨32, 32000, 32000, none⟩ (.edge 2000 9) = .more ⟨0, 0, 34000, none⟩
      ∧ syncEdge 9600 ⟨33, 33000, 35000, some 1002⟩ (.edge 1336 9) = .sync 1002 36336
      ∧ syncEdge 9600 ⟨33, 33000, 35000, some 1002⟩ (.edge 1335 9) = .more ⟨0, 0, 36335, none⟩ := by decide

theorem witness_AcquisitionEndsWithinItsBudget :
    let s : State := { small with source := List.replicate 49 0#16 }
    s.Ready ∧ s.moves = []
      ∧ 3 * s.cfgSampleRate.toNat + (s.cfgSampleRate.toNat / 128 + 1) ≤ s.source.length := by decide

/-- The hypotheses of `DecodeBitClassifiesTwoHalfCycles`. -/
abbrev DecodeBitHypotheses (s : State) (xs : List Sample) (y : Sample) (xs' : List Sample) (y' : Sample)
    (rest : List Sample) : Prop :=
  let c := edgeCorrected (lastSample s.prevSample xs) y
  let f := (xs.length + 1) * 128 + (if c then 64 else 0) - (if s.prevHalf then 64 else 0)
  s.Ready ∧ s.cfgLegal = true ∧ s.moves = [] ∧ s.baselineValid = true ∧ s.source = xs ++ y :: (xs' ++ y' :: rest)
    ∧ sameSign s.prevSample xs = true ∧ neg y.toInt ≠ neg s.prevSample.toInt
    ∧ xs.length + 1 ≤ s.cfgSampleRate.toNat / 128 + 1 ∧ sameSign y xs' = true ∧ neg y'.toInt ≠ neg y.toInt
    ∧ xs'.length + 1 ≤ s.cfgSampleRate.toNat / 128 + 1
    ∧ 9 * s.baseline.toNat ≤ 24 * f ∧ 24 * f ≤ 64 * s.baseline.toNat

/-- A receiver with baseline `b` whose source holds a positive half-cycle of `n + 1` samples and a negative one of
`m + 1`, each with the half-sample correction of a tie. -/
def halfCycles (b n m : Nat) : State :=
  { at9600 with
    baseline := BitVec.ofNat 32 b, baselineValid := true
    source := List.replicate n 100#16 ++ BitVec.ofInt 16 (-100) :: (List.replicate m (BitVec.ofInt 16 (-100))
      ++ 100#16 :: []) }

/-- `f = 320` at the upper end of ZERO's band for `B = 512`; `f = 576` in ONE's, `f = 1088` in TERMINATOR's, and `f = 448`
in none. -/
theorem witness_DecodeBitClassifiesTwoHalfCycles :
    (∀ n ∈ [1, 3, 7, 2], DecodeBitHypotheses (halfCycles 512 n n) (List.replicate n 100#16) (BitVec.ofInt 16 (-100))
        (List.replicate n (BitVec.ofInt 16 (-100))) 100#16 [])
      ∧ [(320, 192), (576, 448), (1088, 960), (448, 320)].map (fun h => classify 512 h.1 (some h.2))
        = [some .zero, some .one, some .terminator, none] := by decide

theorem witness_FirstHalfCycleIsChecked :
    960 < 2 ^ 32 ∧ (9 * tuned.baseline.toNat ≤ 24 * 960 ∧ 24 * 960 ≤ 64 * tuned.baseline.toNat)
      ∧ ¬ 24 * 6827 ≤ 64 * tuned.baseline.toNat := by decide

theorem witness_SecondEdgeTimeoutIsATerminator :
    6401 < 2 ^ 32 ∧ (36 * tuned.baseline.toNat ≤ 24 * 3840 ∧ 24 * 6400 ≤ 60 * tuned.baseline.toNat)
      ∧ ¬ 24 * 6401 ≤ 60 * tuned.baseline.toNat ∧ 32 * tuned.baseline.toNat ≤ 24 * 3414 := by decide

/-- A first half-cycle between the bands, and a pair for each misplaced bit. -/
theorem witness_ByteFrameErrorsAreRaised :
    let b := tuned.baseline.toNat
    (1601 < 2 ^ 32 ∧ 1280 < 2 ^ 32
        ∧ ¬ (9 * b ≤ 24 * 1601 ∧ 24 * 1601 ≤ 15 * b ∧ 8 * b ≤ 24 * 1280 ∧ 24 * 1280 < 16 * b)
        ∧ ¬ (18 * b ≤ 24 * 1601 ∧ 24 * 1601 ≤ 30 * b ∧ 16 * b ≤ 24 * 1280 ∧ 24 * 1280 < 32 * b)
        ∧ ¬ (36 * b ≤ 24 * 1601 ∧ 24 * 1601 ≤ 60 * b ∧ 32 * b ≤ 24 * 1280))
      ∧ (classify b 5120 (secondHalf (.edge 5120 40)) = some .terminator
        ∧ BitUse.block 6 2#8 15#8 7 7#8 ∈ [BitUse.byte 7 7#8, BitUse.block 6 2#8 15#8 7 7#8])
      ∧ (classify b 2560 (secondHalf (.edge 2560 20)) = some .one ∧ BitValue.one ≠ .terminator
        ∧ BitUse.byte 8 7#8 ∈ [BitUse.byte 8 7#8, BitUse.block 6 2#8 15#8 8 7#8]) := by decide

/-- Two half-cycles of the symbol at baseline 2560. -/
def idealPair : BitValue → EdgeOutcome × EdgeOutcome
  | .zero => (.edge 1280 10, .edge 1280 10)
  | .one => (.edge 2560 20, .edge 2560 20)
  | .terminator => (.edge 5120 40, .edge 5120 40)

theorem carries_idealPair (vs : List BitValue) : carries 2560 vs (vs.map idealPair) = true := by
  induction vs with
  | nil => rfl
  | cons v vs ih =>
    rw [List.map_cons, carries, ih, Bool.and_true]
    cases v <;> decide

theorem witness_DecodeByteReadsItsByteFrame :
    let s : State := { tuned with task := some (.receive 0 (.first (.byte 0 0#8))) }
    s.task = some (.receive 0 (.first (.byte 0 0#8)))
      ∧ carries s.baseline.toNat (byteFrame 0x41#8) ((byteFrame 0x41#8).map idealPair) = true :=
  ⟨rfl, carries_idealPair _⟩

theorem checksum_zeros (n : Nat) : checksum (List.replicate n 0#8) = 0#8 := by
  induction n with
  | zero => rfl
  | succ n ih => simpa [checksum, List.replicate_succ] using ih

/-- Both outcomes: the checksum byte 0 of 128 zero bytes, and the checksum byte 1. -/
theorem witness_DecodeBlockDeliversItsBlock :
    let s : State := { tuned with task := some (.receive 0 (.first (.block 0 0#8 0#8 0 0#8))) }
    let payload : List Byte := List.replicate 128 0#8
    let frame := fun c => byteFrame 1#8 ++ payload.flatMap byteFrame ++ byteFrame c
    s.task = some (.receive 0 (.first (.block 0 0#8 0#8 0 0#8))) ∧ payload.length = 128
      ∧ (∀ c, carries s.baseline.toNat (frame c) ((frame c).map idealPair) = true)
      ∧ (0#8 : Byte) = checksum payload ∧ (1#8 : Byte) ≠ checksum payload :=
  ⟨rfl, rfl, fun c => carries_idealPair _, (checksum_zeros 128).symm,
    fun h => absurd (h.trans (checksum_zeros 128)) (by decide)⟩

theorem witness_EngineWaitsForTheStreams :
    let pushing : State := running
    let waiting : State := { tuned with task := some (.receive 0 .report), moves := [.engine] }
    (pushing.EngineNext ∧ pushing.task = some (.emit (.bit .one) 0) ∧ pushing.sinkRoom = 0)
      ∧ (waiting.EngineNext ∧ waiting.task = some (.receive 0 .report) ∧ waiting.source = []) := by decide

theorem witness_EngineStepMovesOneSample :
    let s := emitting at9600 (.bit .one) 2 9600
    let r := pulling State.reset .report 2 200 (-50)
    (s.EngineNext ∧ (∃ t, step s = .next t) ∧ s.task = some (.emit (.bit .one) 2) ∧ 0 < s.sinkRoom)
      ∧ (r.EngineNext ∧ (∃ t, step r = .next t) ∧ r.task = some (.receive 2 .report)
        ∧ r.source = BitVec.ofInt 16 (-50) :: []) :=
  ⟨⟨by decide, ⟨_, rfl⟩, rfl, by decide⟩, ⟨by decide, ⟨_, rfl⟩, rfl, rfl⟩⟩

theorem witness_EngineStepFrame :
    let s := emitting at9600 (.bit .one) 2 9600
    s.EngineNext ∧ (∃ t, step s = .next t) ∧ s.task = some (.emit (.bit .one) 2) := ⟨by decide, ⟨_, rfl⟩, rfl⟩

/-- The step that stores payload byte 5, and a step of the block number, which stores nothing. -/
theorem witness_EngineStoresOnlyTheDecodedByte :
    let s := pulling tuned (.second 5120 (.block 6 2#8 15#8 8 7#8)) 39 (-100) 100
    let u := pulling tuned (.second 5120 (.block 0 0#8 0#8 8 7#8)) 39 (-100) 100
    (s.Inv ∧ s.EngineNext ∧ ∃ t, step s = .next t ∧ t.readByte (bufOffset 5) = 7#8)
      ∧ (u.Inv ∧ u.EngineNext ∧ ∃ t, step u = .next t ∧ t.readByte (bufOffset 0) = u.readByte (bufOffset 0)) :=
  ⟨⟨by decide, by decide, _, rfl, by decide⟩, ⟨by decide, by decide, _, rfl, rfl⟩⟩

/-- A step in the middle of a command, and one that ends it. -/
theorem witness_ResultsAreWrittenAtTheEnd :
    let s := emitting at9600 (.bit .one) 2 9600
    let e := emitting at9600 (.bit .one) 7 33600
    (s.EngineNext ∧ s.busy = true ∧ ∃ t, step s = .next t ∧ t.busy = true)
      ∧ (e.EngineNext ∧ e.busy = true ∧ ∃ t, step e = .next t ∧ t.busy = false) :=
  ⟨⟨by decide, rfl, _, rfl, by decide⟩, ⟨by decide, rfl, _, rfl, by decide⟩⟩

/-- An access for each clause: below 0x100 no register's or not 4 bytes wide, in the buffer misaligned or while BUSY = 1,
and from 0x180 on. -/
theorem witness_BusErrorChangesNothing :
    let r : State := { State.reset with moves := [.host (.read 0x0FC#12 .word)] }
    (r.moves = .host (.read 0x0FC#12 .word) :: [] ∧ (0x0FC#12).toNat < 0x100 ∧ (0x0FC#12).toNat ∉ registerOffsets)
      ∧ ((0x008#12).toNat ∈ registerOffsets ∧ AccessSize.byte ≠ .word)
      ∧ (0x100 ≤ (0x17F#12).toNat ∧ (0x17F#12).toNat < 0x180 ∧ (0x17F#12).toNat % AccessSize.half.bytes ≠ 0)
      ∧ (0x100 ≤ (0x100#12).toNat ∧ (0x100#12).toNat < 0x180 ∧ running.busy = true)
      ∧ 0x180 ≤ (0x180#12).toNat := by decide

theorem witness_ReadsHaveNoSideEffects :
    let s : State := { running with moves := [.host (.read 0x008#12 .word)] }
    let t : State := { State.reset with moves := [.host (.read 0x080#12 .word)] }
    s.moves = .host (.read 0x008#12 .word) :: [] ∧ t.moves = .host (.read 0x080#12 .word) :: [] ∧ t.busy = false := by
  decide

theorem witness_ReadOnlyAndWriteOnlyRegisters :
    (writing State.reset 0x08C#12 1#32).moves = .host (.write 0x08C#12 .word 1#32) :: []
      ∧ (0x08C#12).toNat ∈ [0x000, 0x018, 0x01C, 0x020, 0x080, 0x084, 0x088, 0x08C]
      ∧ (0x00C#12).toNat ∈ [0x004, 0x00C] := by decide

theorem witness_RegistersReadTheirValues :
    let s : State := { running with moves := [.host (.read 0x08C#12 .word)] }
    let t : State := { tuned with moves := [.host (.read 0x088#12 .word)] }
    (s.moves = .host (.read 0x08C#12 .word) :: []
        ∧ (1#32 : Word) = 0#23 ++ BitVec.ofBool s.final ++ s.expected)
      ∧ (t.moves = .host (.read 0x088#12 .word) :: [] ∧ t.busy = false ∧ t.baseline = 2560#32)
      ∧ (writing running 0x010#12 7#32).moves = .host (.write 0x010#12 .word 7#32) :: []
      ∧ (writing running 0x014#12 7#32).moves = .host (.write 0x014#12 .word 7#32) :: [] := by decide

/-- The last byte and the last word of the buffer. -/
theorem witness_BufferIsLittleEndian :
    State.reset.busy = false
      ∧ (0x100 ≤ (0x17F#12).toNat ∧ (0x17F#12).toNat < 0x180 ∧ (0x17F#12).toNat % AccessSize.byte.bytes = 0)
      ∧ (0x100 ≤ (0x17C#12).toNat ∧ (0x17C#12).toNat < 0x180 ∧ (0x17C#12).toNat % AccessSize.word.bytes = 0) := by
  decide

/-- For each register a write that is locked, one that is illegal and one that is accepted, at the bounds. -/
theorem witness_ConfigurationWritesAreChecked :
    running.busy = true ∧ (State.reset.busy = false ∧ State.reset.txActive = false)
      ∧ (writing State.reset 0x040#12 9600#32).moves = .host (.write 0x040#12 .word 9600#32) :: []
      ∧ 16 * State.reset.cfgBaseFreq.toNat ≤ 9600 ∧ ¬ 1048577 ≤ 2 ^ 20
      ∧ (writing State.reset 0x044#12 3000#32).moves = .host (.write 0x044#12 .word 3000#32) :: []
      ∧ 16 * 3000 ≤ State.reset.cfgSampleRate.toNat ∧ ¬ 16 * 3001 ≤ State.reset.cfgSampleRate.toNat
      ∧ (writing State.reset 0x048#12 32767#32).moves = .host (.write 0x048#12 .word 32767#32) :: []
      ∧ ¬ 32768 ≤ 32767
      ∧ (writing State.reset 0x04C#12 65535#32).moves = .host (.write 0x04C#12 .word 65535#32) :: []
      ∧ ¬ 65536 ≤ 65535
      ∧ (writing State.reset 0x050#12 0xFF01#32).moves = .host (.write 0x050#12 .word 0xFF01#32) :: [] := by decide

theorem witness_SoftResetKeepsTheConfiguration :
    (writing running 0x004#12 3#32).moves = .host (.write 0x004#12 .word 3#32) :: [] ∧ (3#32).getLsbD 0 = true := by
  decide

theorem witness_ClearErrorReturnsFromAnError :
    (writing erred 0x004#12 2#32).moves = .host (.write 0x004#12 .word 2#32) :: [] ∧ (2#32).getLsbD 0 = false
      ∧ (2#32).getLsbD 1 = true := by decide

theorem witness_StatusWriteClearsDoneAndOverrun :
    (writing State.reset 0x008#12 0x82#32).moves = .host (.write 0x008#12 .word 0x82#32) :: []
      ∧ (0x82#32).getLsbD 1 = true ∧ (0x82#32).getLsbD 7 = true := by decide

theorem witness_StatusReadsItsFields :
    let s : State := { State.reset with moves := [.host (.read 0x008#12 .word)] }
    s.moves = .host (.read 0x008#12 .word) :: [] ∧ s.busy = false := by decide

/-- CLR_ERR while a command runs. -/
theorem witness_HostAccessesDoNotDisturbACommand :
    let s := writing running 0x004#12 2#32
    s.moves = .host (.write 0x004#12 .word 2#32) :: [] ∧ s.busy = true
      ∧ ∀ v, Access.write 0x004#12 .word 2#32 = .write 0x004#12 .word v → v.getLsbD 0 = false := by
  refine ⟨rfl, rfl, fun v h => ?_⟩
  cases h
  decide

theorem witness_PowerOnResetsAllButTheStreams :
    let s : State := { running with moves := [.powerOn], source := [1#16] }
    s.moves = .powerOn :: [] ∧ ∃ t, step s = .next t := ⟨rfl, _, rfl⟩

/-- CLR_ERR changes a standing error. -/
theorem witness_FirstErrorWins :
    let s := writing erred 0x004#12 2#32
    ∃ t, step s = .next t ∧ s.err ≠ .none ∧ t.err ≠ s.err := ⟨_, rfl, by decide, by decide⟩

theorem witness_PhaseHasItsWriters :
    let s := emitting at9600 (.bit .one) 2 9600
    ∃ t, step s = .next t ∧ t.phase ≠ s.phase := ⟨_, rfl, by decide⟩

theorem witness_EdgeStateHasItsWriters :
    let s := pulling State.reset .report 2 200 (-50)
    ∃ t, step s = .next t ∧ t.prevSample ≠ s.prevSample := ⟨_, rfl, by decide⟩

/-- The confirm edge of the candidate 512: 9 samples, `d = 1152`. -/
theorem witness_BaselineHasItsWriters :
    let s := pulling at9600 (.sync false ⟨40, 20480, 21568, some 512⟩) 8 (-100) 300
    ∃ t, step s = .next t ∧ t.baseline ≠ s.baseline := ⟨_, rfl, by decide⟩

theorem witness_SequenceStateHasItsWriters :
    let s := { State.reset with expected := 9#8 }.withFetchWord 32 0x00000010
    ∃ t, step s = .next t ∧ t.expected ≠ s.expected := ⟨_, rfl, by decide⟩

/-- A state in the middle of a DECODE_BLOCK meets the invariant. -/
theorem witness_StepKeepsTheInvariant :
    let s := pulling tuned (.second 5120 (.block 6 2#8 15#8 8 7#8)) 39 (-100) 100
    s.Inv ∧ ∃ t, step s = .next t := ⟨by decide, _, rfl⟩

end Sys2Proof.Tests
end

section
/-!
SUPPORT. Everything an engine step can do, with the legality that passes on: the consumers of an edge, the pull, the EMIT
step (20_memory.md R65, 70_reset_and_hazards.md R255).
-/

namespace Sys2Proof.Machine

/-! ### The parts of the invariant as propositions -/

theorem State.cfgLegal_iff {s : State} :
    s.cfgLegal = true ↔ 1 ≤ s.cfgBaseFreq.toNat ∧ 16 * s.cfgBaseFreq.toNat ≤ s.cfgSampleRate.toNat
      ∧ s.cfgSampleRate.toNat ≤ Config.maxSampleRate ∧ s.cfgAmplitude.toNat ≤ Config.maxAmplitude
      ∧ s.cfgLeadin.toNat ≤ Config.maxLeadin := by
  simp only [State.cfgLegal, Bool.and_eq_true, decide_eq_true_eq, and_assoc]

theorem State.memLegal_iff {s : State} :
    s.memLegal = true ↔ Memory.wf s.mem = true ∧ (s.mem.all fun c => inBuffer c.1) = true := by
  simp only [State.memLegal, Bool.and_eq_true]

@[simp] theorem emitPosLegal_byte {s : State} {b : Byte} {i : Nat} : emitPosLegal s (.byte b i) = true ↔ i ≤ 8 := by
  simp only [emitPosLegal, decide_eq_true_eq]

@[simp] theorem emitPosLegal_preamble {s : State} {num : Byte} {left : Nat} :
    emitPosLegal s (.preamble num left) = true ↔ 1 ≤ left ∧ left ≤ Config.maxLeadin := by
  simp only [emitPosLegal, Bool.and_eq_true, decide_eq_true_eq]

@[simp] theorem emitPosLegal_frame {s : State} {pos i : Nat} {b cs : Byte} :
    emitPosLegal s (.frame pos b i cs) = true ↔ pos ≤ 129 ∧ i ≤ 8 := by
  simp only [emitPosLegal, Bool.and_eq_true, decide_eq_true_eq]

@[simp] theorem emitPosLegal_ramp {s : State} {dir : Direction} {k : Nat} :
    emitPosLegal s (.ramp dir k) = true ↔ k ≤ 1 ∧ s.txActive = true := by
  simp only [emitPosLegal, Bool.and_eq_true, decide_eq_true_eq]

@[simp] theorem bitUseLegal_byte {i : Nat} {v : Byte} : bitUseLegal (.byte i v) = true ↔ i ≤ 8 := by
  simp only [bitUseLegal, decide_eq_true_eq]

@[simp] theorem bitUseLegal_block {pos i : Nat} {num cs v : Byte} :
    bitUseLegal (.block pos num cs i v) = true ↔ pos ≤ 129 ∧ i ≤ 8 := by
  simp only [bitUseLegal, Bool.and_eq_true, decide_eq_true_eq]

@[simp] theorem edgeUseLegal_first {s : State} {use : BitUse} :
    edgeUseLegal s (.first use) = true ↔ s.baselineValid = true ∧ bitUseLegal use = true := by
  simp only [edgeUseLegal, Bool.and_eq_true]

@[simp] theorem edgeUseLegal_second {s : State} {f : Nat} {use : BitUse} :
    edgeUseLegal s (.second f use) = true
      ↔ s.baselineValid = true ∧ bitUseLegal use = true ∧ saneFirst s.baseline.toNat f = true := by
  simp only [edgeUseLegal, Bool.and_eq_true, and_assoc]

theorem syncAccLegal_iff {fs : Nat} {acc : SyncAcc} :
    syncAccLegal fs acc = true ↔ acc.tot ≤ Config.syncBudget fs ∧ acc.sum ≤ acc.tot
      ∧ Config.half * acc.count ≤ acc.sum ∧ ∀ avg, acc.confirm = some avg → syncInRange avg = true := by
  cases h : acc.confirm <;> simp [syncAccLegal, h, and_assoc]

/-! ### The synchroniser's edge -/

theorem SyncAcc.start_legal (fs : Nat) : syncAccLegal fs .start = true := by
  simp [syncAccLegal, SyncAcc.start]

/-- An edge within the budget that does not end the acquisition leaves a legal accumulator (43_synchronizer.md R160 to
R166): a run goes on with one more edge of at least HALF, a candidate is in range, and a restart keeps the total. -/
theorem syncEdge_more_legal {fs : Nat} {acc acc' : SyncAcc} {e : EdgeOutcome} (hd : Config.half ≤ e.dur)
    (h : syncEdge fs acc e = .more acc') (hacc : syncAccLegal fs acc = true) : syncAccLegal fs acc' = true := by
  obtain ⟨-, hsum, hcount, -⟩ := syncAccLegal_iff.1 hacc
  have restart (tot : Nat) (ht : tot ≤ Config.syncBudget fs) (h : syncRestart tot = .more acc') :
      syncAccLegal fs acc' = true := by
    cases h
    simp [syncAccLegal, ht]
  simp only [syncEdge] at h
  split at h
  · cases h
  next hbudget =>
    have ht := Nat.not_lt.1 hbudget
    split at h
    · cases e with
      | timeout d n => exact restart _ ht h
      | edge d n =>
        simp only [EdgeOutcome.dur] at hd ht
        simp only [syncScan, EdgeOutcome.dur] at h
        split at h
        · cases h
          have hcount' : Config.half * (acc.count + 1) ≤ acc.sum + d := by rw [Nat.mul_add]; omega
          exact syncAccLegal_iff.2 ⟨ht, Nat.add_le_add_right hsum d, hcount', nofun⟩
        · split at h
          next hcand =>
            cases h
            rw [Bool.and_eq_true] at hcand
            refine syncAccLegal_iff.2 ⟨ht, Nat.le_add_right_of_le hsum, hcount, fun avg havg => ?_⟩
            cases havg
            exact hcand.2
          · exact restart _ ht h
    · cases e with
      | timeout d n => exact restart _ ht h
      | edge d n =>
        simp only [syncConfirm] at h
        split at h
        · cases h
        · exact restart _ ht h

/-- A baseline is found only as the candidate of a legal accumulator, which is in range (43_synchronizer.md R164). -/
theorem syncEdge_sync_inRange {fs avg tot : Nat} {acc : SyncAcc} {e : EdgeOutcome}
    (h : syncEdge fs acc e = .sync avg tot) (hacc : syncAccLegal fs acc = true) : syncInRange avg = true := by
  simp only [syncEdge] at h
  split at h
  · cases h
  · split at h
    · cases e with
      | timeout d n => cases h
      | edge d n =>
        simp only [syncScan, syncRestart] at h
        split at h
        · cases h
        · split at h <;> cases h
    next cand hcand =>
      cases e with
      | timeout d n => cases h
      | edge d n =>
        simp only [syncConfirm, syncRestart] at h
        split at h
        · cases h
          obtain ⟨-, -, -, hconfirm⟩ := syncAccLegal_iff.1 hacc
          exact hconfirm _ hcand
        · cases h

/-! ### The consumers of an edge -/

/-- What ERR_POS may take: `0xFFFFFFFF` or a frame position (10_state.md R35). -/
def ErrPosValue (p : Word) : Prop := p = Word.allOnes ∨ p.toNat ≤ 129

theorem errPosValue_allOnes : ErrPosValue Word.allOnes := .inl rfl

theorem errPosValue_ofNat {pos : Nat} (h : pos ≤ 129) : ErrPosValue (BitVec.ofNat 32 pos) :=
  .inr (by simp only [BitVec.toNat_ofNat]; omega)

theorem errPosValue_bitErrPos {use : BitUse} (h : bitUseLegal use = true) : ErrPosValue (bitErrPos use) := by
  cases use with
  | bit => exact errPosValue_allOnes
  | byte i v => exact errPosValue_allOnes
  | block pos num cs i v =>
    exact errPosValue_ofNat (bitUseLegal_block.1 h).1

/-- Everything the consumer `use` of an edge can make of the state `s`: the command completes, aborts, waits for its next
edge, takes a baseline, or stores a decoded byte and waits. What each promises holds where `use` is legal. -/
inductive EdgeEffect (s : State) (use : EdgeUse) : State → Prop
  | finish (r0 r1 : Nat) (timeout : Bool) : EdgeEffect s use (s.finish r0 r1 timeout)
  | abort (code : ErrCode) (r0 r1 pos : Word) (hcode : code ≠ .none)
      (hpos : edgeUseLegal s use = true → ErrPosValue pos) : EdgeEffect s use (s.raiseErr code r0 r1 pos)
  | await (use' : EdgeUse) (hlegal : edgeUseLegal s use = true → edgeUseLegal s use' = true) :
      EdgeEffect s use (s.awaitEdge use')
  | acquire (forBlock : Bool) (acc : SyncAcc) (avg tot : Nat) (huse : use = .sync forBlock acc)
      (havg : edgeUseLegal s use = true → syncInRange avg = true) : EdgeEffect s use (acquired s forBlock avg tot)
  | store (i : Nat) (v : Byte) (use' : EdgeUse)
      (hlegal : edgeUseLegal s use = true → i < Config.payloadBytes ∧ edgeUseLegal s use' = true) :
      EdgeEffect s use ((s.setBuf i v).awaitEdge use')

theorem reportEdge_effect (s : State) (e : EdgeOutcome) : EdgeEffect s .report (reportEdge s e) := by
  cases e with
  | edge d n => exact .finish d n false
  | timeout d n => exact .finish d n true

theorem acquireEdge_effect (s : State) (forBlock : Bool) (acc : SyncAcc) (e : EdgeOutcome)
    (hd : Config.half ≤ e.dur) : EdgeEffect s (.sync forBlock acc) (acquireEdge s forBlock acc e) := by
  unfold acquireEdge
  split
  next acc' h => exact .await _ (syncEdge_more_legal hd h)
  next avg tot h => exact .acquire forBlock acc avg tot rfl (syncEdge_sync_inRange h)
  · exact .finish _ _ _

theorem bitFirstEdge_effect (s : State) (use : BitUse) (e : EdgeOutcome) :
    EdgeEffect s (.first use) (bitFirstEdge s use e) := by
  have hpos (h : edgeUseLegal s (.first use) = true) : ErrPosValue (bitErrPos use) :=
    errPosValue_bitErrPos (edgeUseLegal_first.1 h).2
  cases e with
  | timeout d n => exact .abort _ _ _ _ (by decide) hpos
  | edge f n =>
    simp only [bitFirstEdge]
    split
    next hsane => exact .await _ fun h => by simpa [hsane] using h
    · exact .abort _ _ _ _ (by decide) hpos

/-- A data bit goes to the next place of its byte, which the ninth bit alone leaves (44_demodulator.md R181). -/
theorem byteStep_more {i i' : Nat} {v v' : Byte} {b : BitValue} (h : byteStep i v b = .more i' v') :
    i < 8 ∧ i' = i + 1 := by
  simp only [byteStep] at h
  split at h
  next hi =>
    split at h
    · cases h
    · cases h; exact ⟨hi, rfl⟩
  · split at h <;> cases h

theorem blockByte_effect (s : State) (f pos : Nat) (num cs v v' : Byte) (i : Nat) :
    EdgeEffect s (.second f (.block pos num cs i v)) (blockByte s pos num cs v') := by
  unfold blockByte
  split
  · exact .await _ fun h => edgeUseLegal_first.2 ⟨(edgeUseLegal_second.1 h).1, by simp⟩
  next hpos =>
    split
    next hle =>
      have hbytes : Config.payloadBytes = 128 := rfl
      refine .store _ _ _ fun h => ⟨by omega, edgeUseLegal_first.2 ⟨(edgeUseLegal_second.1 h).1, ?_⟩⟩
      exact bitUseLegal_block.2 ⟨by omega, Nat.zero_le 8⟩
    · split
      · exact .finish _ _ _
      · refine .abort _ _ _ _ (by decide) fun h => errPosValue_ofNat ?_
        obtain ⟨-, huse, -⟩ := edgeUseLegal_second.1 h
        exact (bitUseLegal_block.1 huse).1

theorem gotBit_effect (s : State) (f : Nat) (use : BitUse) (b : BitValue) :
    EdgeEffect s (.second f use) (gotBit s use b) := by
  cases use with
  | bit => exact .finish _ _ _
  | byte i v =>
    simp only [gotBit]
    split
    next h =>
      obtain ⟨hi, rfl⟩ := byteStep_more h
      exact .await _ fun h => edgeUseLegal_first.2 ⟨(edgeUseLegal_second.1 h).1, bitUseLegal_byte.2 hi⟩
    · exact .finish _ _ _
    · exact .abort _ _ _ _ (by decide) fun _ => errPosValue_allOnes
    · exact .abort _ _ _ _ (by decide) fun _ => errPosValue_allOnes
  | block pos num cs i v =>
    have hpos (h : edgeUseLegal s (.second f (.block pos num cs i v)) = true) : ErrPosValue (BitVec.ofNat 32 pos) :=
      errPosValue_bitErrPos (use := .block pos num cs i v) (edgeUseLegal_second.1 h).2.1
    simp only [gotBit]
    split
    next h =>
      obtain ⟨hi, rfl⟩ := byteStep_more h
      refine .await _ fun h => ?_
      obtain ⟨hvalid, huse, -⟩ := edgeUseLegal_second.1 h
      exact edgeUseLegal_first.2 ⟨hvalid, bitUseLegal_block.2 ⟨(bitUseLegal_block.1 huse).1, hi⟩⟩
    · exact blockByte_effect s f pos num cs v _ i
    · exact .abort _ _ _ _ (by decide) hpos
    · exact .abort _ _ _ _ (by decide) hpos

theorem bitSecondEdge_effect (s : State) (f : Nat) (use : BitUse) (e : EdgeOutcome) :
    EdgeEffect s (.second f use) (bitSecondEdge s f use e) := by
  unfold bitSecondEdge
  split
  · exact gotBit_effect s f use _
  · exact .abort _ _ _ _ (by decide) fun h => errPosValue_bitErrPos (edgeUseLegal_second.1 h).2.1

/-- Everything an edge of at least HALF can do to the command that waits for it. -/
theorem onEdge_effect (s : State) (use : EdgeUse) (e : EdgeOutcome) (hd : Config.half ≤ e.dur) :
    EdgeEffect s use (onEdge s use e) := by
  cases use with
  | report => exact reportEdge_effect s e
  | sync forBlock acc => exact acquireEdge_effect s forBlock acc e hd
  | first use => exact bitFirstEdge_effect s use e
  | second f use => exact bitSecondEdge_effect s f use e

/-! ### A receive step -/

/-- The state after a pull: EDGE_STATE has moved on (42_edge_detector.md R145). -/
def State.pulled (s : State) (x : Sample) (half : Bool) : State := { s with prevSample := x, prevHalf := half }

/-- Everything a receive step can do: `edge()` goes on short of its timeout, or its outcome reaches its consumer. -/
theorem receiveStep_cases (s : State) (n : Nat) (use : EdgeUse) (x : Sample) :
    (n + 1 ≠ Config.edgeTimeout s.cfgSampleRate.toNat
        ∧ receiveStep s n use x = (s.pulled x s.prevHalf).start (.receive (n + 1) use))
      ∨ ∃ half, EdgeEffect (s.pulled x half) use (receiveStep s n use x) := by
  obtain ⟨-, h⟩ | ⟨-, -, h⟩ | ⟨-, hn, h⟩ := edgePull_cases s n x
  · refine .inr ⟨edgeCorrected s.prevSample x, ?_⟩
    simp only [receiveStep, h]
    exact onEdge_effect _ _ _ (half_le_edgeDuration _ _ _ s.prevOffset_le)
  · refine .inr ⟨false, ?_⟩
    simp only [receiveStep, h]
    refine onEdge_effect _ _ _ ?_
    simp only [EdgeOutcome.dur, Config.half, Config.edgeUnits]
    omega
  · exact .inl ⟨hn, by simp only [receiveStep, h]; rfl⟩

/-! ### An EMIT step -/

/-- The cycle after a legal one is legal (41_modulator.md R127, R129, R133). -/
theorem nextCycle_legal {s : State} {pos pos' : EmitPos} (h : nextCycle s pos = some pos')
    (hpos : emitPosLegal s pos = true) : emitPosLegal s pos' = true := by
  cases pos with
  | bit v => cases h
  | byte b i =>
    simp only [nextCycle] at h
    split at h <;> cases h
    next hi => exact emitPosLegal_byte.2 hi
  | preamble num left =>
    obtain ⟨hlo, hhi⟩ := emitPosLegal_preamble.1 hpos
    simp only [nextCycle] at h
    split at h <;> cases h
    · exact emitPosLegal_preamble.2 ⟨by omega, by omega⟩
    · rfl
  | mark num => cases h; rfl
  | frame pos b i cs =>
    have hbytes : Config.payloadBytes = 128 := rfl
    obtain ⟨hp, hi⟩ := emitPosLegal_frame.1 hpos
    simp only [nextCycle] at h
    split at h
    · cases h
      exact emitPosLegal_frame.2 ⟨hp, by omega⟩
    · split at h
      · cases h
        exact emitPosLegal_frame.2 ⟨by omega, Nat.zero_le 8⟩
      · split at h <;> cases h
        exact emitPosLegal_frame.2 ⟨by omega, Nat.zero_le 8⟩
  | ramp dir k =>
    simp only [nextCycle] at h
    split at h <;> cases h
    exact emitPosLegal_ramp.2 ⟨Nat.le_refl 1, (emitPosLegal_ramp.1 hpos).2⟩

/-- A completed EMIT command gives its count in RESULT0 and may clear TX_ACTIVE (41_modulator.md R130, R133). -/
theorem finishEmit_eq (s : State) (n : Nat) (pos : EmitPos) :
    ∃ tx r1, finishEmit s n pos = { s with txActive := tx }.finish n r1 false := by
  cases pos with
  | bit v => exact ⟨s.txActive, 0, rfl⟩
  | byte b i => exact ⟨s.txActive, 0, rfl⟩
  | preamble num left => exact ⟨s.txActive, 0, rfl⟩
  | mark num => exact ⟨s.txActive, 0, rfl⟩
  | frame pos b i cs => exact ⟨s.txActive, cs.toNat, rfl⟩
  | ramp dir k =>
    cases dir with
    | up => exact ⟨s.txActive, 0, rfl⟩
    | down => exact ⟨false, 0, rfl⟩

theorem toneIncrement_le (f0 : Nat) (v : BitValue) : toneIncrement f0 v ≤ 16 * f0 := by
  cases v <;> simp only [toneIncrement] <;> omega

/-- Everything an EMIT step can do, after its Push and the advance of PHASE to a legal value: the command goes on, or it
completes (40_synthesis.md R115). -/
theorem emitStep_effect (s : State) (pos : EmitPos) (n : Nat) :
    ∃ p', (s.cfgLegal = true → s.phaseLegal = true → p' < 4 * s.cfgSampleRate.toNat)
      ∧ ((∃ pos', (emitPosLegal s pos = true → emitPosLegal s pos' = true)
            ∧ emitStep s pos n = (emitPushed s pos p').start (.emit pos' (n + 1)))
        ∨ ∃ tx r1, emitStep s pos n = { emitPushed s pos p' with txActive := tx }.finish (n + 1) r1 false) := by
  obtain ⟨hlt, h⟩ | ⟨-, h⟩ := emitStep_cases s pos n
  · exact ⟨_, fun _ _ => hlt, .inl ⟨pos, id, h⟩⟩
  · refine ⟨s.phase.toNat + toneIncrement s.cfgBaseFreq.toNat (emitSymbol pos) - 4 * s.cfgSampleRate.toNat,
      fun hcfg hphase => ?_, ?_⟩
    · have := toneIncrement_le s.cfgBaseFreq.toNat (emitSymbol pos)
      have hcfg := State.cfgLegal_iff.1 hcfg
      have hphase : s.phase.toNat < 4 * s.cfgSampleRate.toNat := of_decide_eq_true hphase
      omega
    · rw [h, endCycle]
      split
      next pos' hnext => exact .inl ⟨pos', fun hpos => nextCycle_legal hnext hpos, rfl⟩
      · exact .inr (finishEmit_eq _ _ _)

end Sys2Proof.Machine
end

section
/-!
SUPPORT. What a host access and the issue of a word can do, and that every operation of the block keeps its invariant.
-/

namespace Sys2Proof.Machine

/-! ### The issue of a word -/

/-- Everything the CMD write of a word can do (60_exceptions.md R222): it is dropped, it is refused, its command runs, or
it is illegal. -/
theorem issueWord_cases {w : Word} {s t : State} (h : issueWord w s = .next t) :
    t = s.ack.drop ∨ t = s.ack.refuse ∨ (∃ i, decode w = .ok i ∧ t = commandBody i s.ack)
      ∨ t = s.ack.usageErr .illegalCmd := by
  unfold issueWord at h
  split at h
  next i hi =>
    rw [exec_eq_issue] at h
    obtain ⟨-, h⟩ | ⟨-, -, h⟩ | ⟨-, -, h⟩ := State.issue_cases h
    · exact .inl h
    · exact .inr (.inl h)
    · exact .inr (.inr (.inl ⟨i, hi, h⟩))
  · obtain ⟨-, h⟩ | ⟨-, -, h⟩ | ⟨-, -, h⟩ := State.issue_cases h
    · exact .inl h
    · exact .inr (.inl h)
    · exact .inr (.inr (.inr h))

/-! ### The host port -/

/-- The offset of a register (20_memory.md R51). -/
def Reg.offset : Reg → Nat
  | .id => 0x000 | .ctrl => 0x004 | .status => 0x008 | .cmd => 0x00C | .arg0 => 0x010 | .arg1 => 0x014
  | .result0 => 0x018 | .result1 => 0x01C | .errPos => 0x020
  | .cfgSampleRate => 0x040 | .cfgBaseFreq => 0x044 | .cfgAmplitude => 0x048 | .cfgLeadin => 0x04C | .cfgSeq => 0x050
  | .phase => 0x080 | .edgeState => 0x084 | .baseline => 0x088 | .seqState => 0x08C

theorem Reg.ofOffset_eq_some {addr : Nat} {r : Reg} : Reg.ofOffset addr = some r ↔ addr = r.offset := by
  refine ⟨fun h => ?_, fun h => by subst h; cases r <;> rfl⟩
  unfold Reg.ofOffset at h
  split at h <;> cases h <;> rfl

/-- An access that reaches a register is 4 bytes wide at its offset (20_memory.md R52). -/
theorem regAt_eq_some {addr : BitVec 12} {size : AccessSize} {r : Reg} :
    regAt addr size = some r ↔ size = .word ∧ addr.toNat = r.offset := by
  cases size <;> simp [regAt, Reg.ofOffset_eq_some]

/-- A read changes the answer on the port and, at an unspecified value, the counter of draws (20_memory.md R61). -/
theorem readReg_eq (s : State) (r : Reg) : ∃ resp d, readReg s r = { s with response := resp, draws := d } := by
  cases r with
  | status | phase | edgeState | baseline =>
    simp only [readReg]
    split
    · exact ⟨_, s.draws + 1, rfl⟩
    · exact ⟨_, s.draws, rfl⟩
  | _ => exact ⟨_, s.draws, rfl⟩

/-- Everything an access on the host port can do: answer, write a register, or write bytes of the buffer. -/
theorem hostPort_cases (s : State) (a : Access) :
    (∃ resp d, hostPort s a = { s with response := resp, draws := d })
      ∨ (∃ addr v r, a = .write addr .word v ∧ addr.toNat = r.offset ∧ hostPort s a = (writeReg s v r).ack)
      ∨ (∃ addr size v, s.bufferOpen addr size = true
        ∧ hostPort s a = (s.writeBytes addr.toNat v size.bytes).ack) := by
  cases a with
  | read addr size =>
    refine .inl ?_
    simp only [hostPort]
    split
    · exact readReg_eq s _
    · split
      · exact ⟨_, s.draws, rfl⟩
      · exact ⟨_, s.draws, rfl⟩
  | write addr size v =>
    simp only [hostPort]
    split
    next r hr =>
      obtain ⟨rfl, haddr⟩ := regAt_eq_some.1 hr
      exact .inr (.inl ⟨addr, v, r, rfl, haddr, rfl⟩)
    · split
      next hopen => exact .inr (.inr ⟨addr, size, v.toNat, hopen, rfl⟩)
      · exact .inl ⟨_, s.draws, rfl⟩

/-- Everything a configuration write can do: it is refused with an error, or it passes its checks (45_framer_control.md
R199). -/
theorem cfgWrite_cases (s : State) (locked legal : Bool) (accepted : State) :
    (∃ code, code ≠ .none ∧ cfgWrite s locked legal accepted = s.refuseCfg code)
      ∨ (locked = false ∧ legal = true ∧ cfgWrite s locked legal accepted = accepted) := by
  cases locked with
  | true => exact .inl ⟨.cfgLocked, by decide, rfl⟩
  | false =>
    cases legal with
    | true => exact .inr ⟨rfl, rfl, rfl⟩
    | false => exact .inl ⟨.cfgInvalid, by decide, rfl⟩

/-! ### The invariant without the running command -/

/-- The part of the invariant that does not speak of the running command. -/
structure State.RegsInv (s : State) : Prop where
  cfg : s.cfgLegal = true
  phase : s.phaseLegal = true
  baseline : s.baselineLegal = true
  errPos : s.errPosLegal = true
  mem : s.memLegal = true

theorem State.inv_iff {s : State} : s.Inv ↔ s.RegsInv ∧ s.taskLegal = true :=
  ⟨fun ⟨h1, h2, h3, h4, h5, h6⟩ => ⟨⟨h1, h2, h3, h4, h5⟩, h6⟩, fun ⟨⟨h1, h2, h3, h4, h5⟩, h6⟩ => ⟨h1, h2, h3, h4, h5, h6⟩⟩

theorem State.Inv.regs {s : State} (h : s.Inv) : s.RegsInv := (State.inv_iff.1 h).1

/-- PHASE 0 is legal under every legal configuration (10_state.md R41). -/
theorem State.four_fs_pos {s : State} (h : s.cfgLegal = true) : 0 < 4 * s.cfgSampleRate.toNat := by
  have := State.cfgLegal_iff.1 h
  omega

theorem State.taskLegal_receive {s : State} {n : Nat} {use : EdgeUse} :
    (s.start (.receive n use)).taskLegal = true
      ↔ n < Config.edgeTimeout s.cfgSampleRate.toNat ∧ edgeUseLegal s use = true :=
  (Bool.and_eq_true _ _).to_iff.trans (and_congr_left' decide_eq_true_iff)

theorem inBuffer_iff {addr : Nat} : inBuffer addr = true ↔ 0x100 ≤ addr ∧ addr < 0x180 := by
  simp only [inBuffer, Bool.and_eq_true, decide_eq_true_eq]

theorem inBuffer_bufOffset {i : Nat} (h : i < Config.payloadBytes) : inBuffer (bufOffset i) = true := by
  have hbytes : Config.payloadBytes = 128 := rfl
  have hoffset : bufOffset i = 0x100 + i := rfl
  exact inBuffer_iff.2 ⟨by omega, by omega⟩

namespace State.RegsInv

variable {s : State}

theorem finish (h : s.RegsInv) (r0 r1 : Nat) (b : Bool) : (s.finish r0 r1 b).Inv :=
  State.inv_iff.2 ⟨{ h with }, rfl⟩

theorem start (h : s.RegsInv) {k : Task} (hk : (s.start k).taskLegal = true) : (s.start k).Inv :=
  State.inv_iff.2 ⟨{ h with }, hk⟩

/-- The first error takes a legal ERR_POS, a later one leaves the standing error's (60_exceptions.md R226). -/
theorem errPosLegal_record (h : s.errPosLegal = true) {code : ErrCode} {pos : Word} (hcode : code ≠ .none)
    (hpos : ErrPosValue pos) :
    State.errPosLegal { s with
      err := if s.err = .none then code else s.err, errPos := if s.err = .none then pos else s.errPos } = true := by
  by_cases herr : s.err = .none
  · simpa [State.errPosLegal, ErrPosValue, herr, hcode] using hpos
  · simpa [State.errPosLegal, herr] using h

theorem raiseErr (h : s.RegsInv) {code : ErrCode} {r0 r1 pos : Word} (hcode : code ≠ .none) (hpos : ErrPosValue pos) :
    (s.raiseErr code r0 r1 pos).Inv :=
  State.inv_iff.2 ⟨{ h with errPos := errPosLegal_record h.errPos hcode hpos }, rfl⟩

theorem usageErr (h : s.RegsInv) {code : ErrCode} (hcode : code ≠ .none) : (s.usageErr code).Inv :=
  h.raiseErr hcode errPosValue_allOnes

theorem awaitEdge (h : s.RegsInv) {use : EdgeUse} (huse : edgeUseLegal s use = true) : (s.awaitEdge use).Inv :=
  h.start (State.taskLegal_receive.2 ⟨Nat.succ_pos _, huse⟩)

/-- Writing bytes inside the buffer keeps its canonical form and its range (10_state.md R45). -/
theorem writeBytes (h : s.RegsInv) (a v n : Nat) (ha : ∀ k, k < n → inBuffer (a + k) = true) :
    (s.writeBytes a v n).RegsInv := by
  obtain ⟨hwf, hall⟩ := State.memLegal_iff.1 h.mem
  have hlegal : (s.writeBytes a v n).memLegal = true :=
    State.memLegal_iff.2 ⟨s.wf_writeBytes a v n hwf, s.all_writeBytes a v n inBuffer hall ha⟩
  obtain ⟨m, hm⟩ := s.writeBytes_eq a v n
  rw [hm] at hlegal ⊢
  exact { h with mem := hlegal }

theorem setBuf (h : s.RegsInv) {i : Nat} (v : Byte) (hi : i < Config.payloadBytes) : (s.setBuf i v).RegsInv :=
  have ⟨hwf, hall⟩ := State.memLegal_iff.1 h.mem
  have hall' := Memory.all_write _ _ v inBuffer hall (inBuffer_bufOffset hi)
  { h with mem := State.memLegal_iff.2 ⟨Memory.wf_write _ _ _ hwf, hall'⟩ }

end State.RegsInv

/-! ### The engine keeps the invariant -/

theorem acquired_inv {s : State} (h : s.RegsInv) (forBlock : Bool) {avg : Nat} (tot : Nat)
    (havg : syncInRange avg = true) : (acquired s forBlock avg tot).Inv := by
  have hnat : (BitVec.ofNat 32 avg).toNat = avg := by
    simp only [syncInRange, Bool.and_eq_true, decide_eq_true_eq] at havg
    have hmax : Config.syncMax = 8192 := rfl
    rw [BitVec.toNat_ofNat, Nat.mod_eq_of_lt (by omega)]
  have hregs : State.RegsInv { s with baseline := BitVec.ofNat 32 avg, baselineValid := true } :=
    { h with baseline := by simp [State.baselineLegal, hnat, havg] }
  cases forBlock with
  | true => exact hregs.awaitEdge rfl
  | false => exact hregs.finish _ _ _

theorem EdgeEffect.inv {s t : State} {use : EdgeUse} (h : EdgeEffect s use t) (hs : s.RegsInv)
    (huse : edgeUseLegal s use = true) : t.Inv := by
  cases h with
  | finish r0 r1 b => exact hs.finish r0 r1 b
  | abort code r0 r1 pos hcode hpos => exact hs.raiseErr hcode (hpos huse)
  | await use' hlegal => exact hs.awaitEdge (hlegal huse)
  | acquire forBlock acc avg tot _ havg => exact acquired_inv hs forBlock tot (havg huse)
  | store i v use' hlegal => exact (hs.setBuf v (hlegal huse).1).awaitEdge (hlegal huse).2

theorem receiveStep_inv {s : State} {n : Nat} {use : EdgeUse} (x : Sample) (hs : s.RegsInv)
    (hn : n < Config.edgeTimeout s.cfgSampleRate.toNat) (huse : edgeUseLegal s use = true) :
    (receiveStep s n use x).Inv := by
  have hpulled (half : Bool) : (s.pulled x half).RegsInv := { hs with }
  obtain ⟨hne, h⟩ | ⟨half, h⟩ := receiveStep_cases s n use x
  · rw [h]
    exact (hpulled _).start (State.taskLegal_receive.2 ⟨lt_of_le_of_ne hn hne, huse⟩)
  · exact h.inv (hpulled half) huse

theorem emitStep_inv {s : State} {pos : EmitPos} (n : Nat) (hs : s.RegsInv) (hpos : emitPosLegal s pos = true) :
    (emitStep s pos n).Inv := by
  obtain ⟨p', hp, h⟩ := emitStep_effect s pos n
  have hphase : (emitPushed s pos p').phaseLegal = true := by
    have hlt := hp hs.cfg hs.phase
    have hfs : s.cfgSampleRate.toNat < 2 ^ 21 := by
      have hmax : Config.maxSampleRate = 2 ^ 20 := rfl
      have hcfg := State.cfgLegal_iff.1 hs.cfg
      omega
    show decide ((BitVec.ofNat 32 p').toNat < 4 * s.cfgSampleRate.toNat) = true
    rw [BitVec.toNat_ofNat, Nat.mod_eq_of_lt (by omega)]
    exact decide_eq_true hlt
  have hregs : (emitPushed s pos p').RegsInv := { hs with phase := hphase }
  obtain ⟨pos', hpos', h⟩ | ⟨tx, r1, h⟩ := h
  · rw [h]
    exact hregs.start (hpos' hpos)
  · have hregs' : State.RegsInv { emitPushed s pos p' with txActive := tx } := { hregs with }
    rw [h]
    exact hregs'.finish _ _ _

theorem engineTurn_inv {s : State} (h : s.Inv) : (engineTurn s).Inv := by
  obtain ⟨hregs, htask⟩ := State.inv_iff.1 h
  obtain heq | ⟨pos, n, ht, -, heq⟩ | ⟨n, use, x, rest, ht, -, heq⟩ := engineTurn_cases s
  · rwa [heq]
  · rw [heq]
    simp only [State.taskLegal, ht] at htask
    exact emitStep_inv n hregs htask
  · rw [heq]
    simp only [State.taskLegal, ht, Bool.and_eq_true, decide_eq_true_eq] at htask
    exact receiveStep_inv x { hregs with } htask.1 htask.2

/-! ### The commands keep the invariant -/

theorem blockStart_legal (s : State) (num : Byte) {cnt : Nat} (h : cnt ≤ Config.maxLeadin) :
    emitPosLegal s (blockStart num cnt) = true := by
  unfold blockStart
  split
  · rfl
  next hcnt => exact emitPosLegal_preamble.2 ⟨Nat.pos_of_ne_zero hcnt, h⟩

theorem State.preambleLength_le {s : State} (h : s.cfgLegal = true) : s.preambleLength ≤ Config.maxLeadin := by
  obtain ⟨-, -, -, -, hleadin⟩ := State.cfgLegal_iff.1 h
  unfold State.preambleLength
  split
  · exact hleadin
  · decide

theorem runEmitBlock_inv {s : State} (h : s.RegsInv) (num : Byte) : (runEmitBlock num s).Inv :=
  have hregs : State.RegsInv { s with firstPending := false } := { h with }
  hregs.start (blockStart_legal s num (State.preambleLength_le h.cfg))

theorem runEmitRamp_inv {s : State} (h : s.RegsInv) (imm : Byte) : (runEmitRamp imm s).Inv := by
  unfold runEmitRamp
  split
  · split
    · exact h.usageErr (by decide)
    · have hregs : State.RegsInv { s with phase := 0#32, txActive := true, firstPending := true } :=
        { h with phase := decide_eq_true (State.four_fs_pos h.cfg) }
      exact hregs.start rfl
  · split
    next htx => exact h.start ((emitPosLegal_ramp (dir := .down)).2 ⟨Nat.zero_le 1, htx⟩)
    · exact h.usageErr (by decide)
  · exact h.usageErr (by decide)

theorem sequence_regsInv {s : State} (h : s.RegsInv) (expected : Byte) (final : Bool) :
    State.RegsInv { s with expected := expected, final := final } := { h with }

theorem runSeqCheck_inv {s : State} (h : s.RegsInv) (n : Byte) : (runSeqCheck n s).Inv := by
  have raised : (raiseSequence s n).Inv := h.raiseErr (by decide) errPosValue_allOnes
  unfold runSeqCheck
  split
  · exact h.finish _ _ _
  · split
    · exact raised
    · split
      · exact (sequence_regsInv h s.expected true).finish _ _ _
      · split
        · exact (sequence_regsInv h (s.expected + 1#8) s.final).finish _ _ _
        · exact raised

/-- Every command leaves a state of the invariant in the step of its CMD write, whatever ran before. -/
theorem commandBody_inv (i : Instr) {s : State} (h : s.RegsInv) : (commandBody i s).Inv := by
  cases i with
  | nop => exact h.finish _ _ _
  | cos =>
    simp only [commandBody, runCos]
    split
    · exact h.usageErr (by decide)
    · exact h.finish _ _ _
  | emitBit imm =>
    simp only [commandBody, runEmitBit]
    split
    · exact h.start rfl
    · exact h.usageErr (by decide)
  | emitByte b => exact h.start rfl
  | emitBlock num => exact runEmitBlock_inv h num
  | emitRamp imm => exact runEmitRamp_inv h imm
  | nextEdge => exact h.awaitEdge rfl
  | acquireSync => exact h.awaitEdge (SyncAcc.start_legal _)
  | decodeBit =>
    simp only [commandBody, runDecodeBit]
    split
    next hvalid => exact h.awaitEdge (edgeUseLegal_first.2 ⟨hvalid, rfl⟩)
    · exact h.usageErr (by decide)
  | decodeByte =>
    simp only [commandBody, runDecodeByte]
    split
    next hvalid => exact h.awaitEdge (edgeUseLegal_first.2 ⟨hvalid, rfl⟩)
    · exact h.usageErr (by decide)
  | decodeBlock => exact h.awaitEdge (SyncAcc.start_legal _)
  | seqInit => exact (sequence_regsInv h s.seqFirst false).finish _ _ _
  | seqCheck n => exact runSeqCheck_inv h n

theorem issueWord_inv {w : Word} {s t : State} (hs : s.Inv) (h : issueWord w s = .next t) : t.Inv := by
  have hregs : s.ack.RegsInv := State.Inv.regs (s := s.ack) hs
  obtain rfl | rfl | ⟨i, -, rfl⟩ | rfl := issueWord_cases h
  · exact hs
  · exact hs
  · exact commandBody_inv i hregs
  · exact hregs.usageErr (by decide)

/-! ### The host port keeps the invariant -/

theorem refuseCfg_inv {s : State} (h : s.Inv) {code : ErrCode} (hcode : code ≠ .none) : (s.refuseCfg code).Inv := by
  obtain ⟨hregs, htask⟩ := State.inv_iff.1 h
  have herr := State.RegsInv.errPosLegal_record hregs.errPos hcode errPosValue_allOnes
  exact State.inv_iff.2 ⟨{ hregs with errPos := herr }, htask⟩

/-- A configuration write keeps the invariant if what it writes, once unlocked and legal, does. -/
theorem cfgWrite_inv {s accepted : State} {locked legal : Bool} (h : s.Inv)
    (haccepted : locked = false → legal = true → accepted.Inv) : (cfgWrite s locked legal accepted).Inv := by
  obtain ⟨code, hcode, heq⟩ | ⟨hunlocked, hlegal, heq⟩ := cfgWrite_cases s locked legal accepted
  · rw [heq]; exact refuseCfg_inv h hcode
  · rw [heq]; exact haccepted hunlocked hlegal

/-- The tone parameters are unlocked only while no command runs (45_framer_control.md R201). -/
theorem State.task_of_not_toneLocked {s : State} (h : s.toneLocked = false) : s.task = none :=
  State.busy_eq_false s |>.1 (Bool.or_eq_false_iff.1 h).1

theorem State.taskLegal_of_none {s : State} (h : s.task = none) : s.taskLegal = true := by
  simp only [State.taskLegal, h]

theorem writeSampleRate_inv {s : State} (h : s.Inv) (v : Word) : (writeSampleRate s v).Inv := by
  refine cfgWrite_inv h fun hlock hlegal => ?_
  obtain ⟨hf0, -, -, ha, hl⟩ := State.cfgLegal_iff.1 h.regs.cfg
  simp only [Bool.and_eq_true, decide_eq_true_eq] at hlegal
  have hcfg : State.cfgLegal { s with cfgSampleRate := v } = true :=
    State.cfgLegal_iff.2 ⟨hf0, hlegal.1, hlegal.2, ha, hl⟩
  exact State.inv_iff.2
    ⟨{ h.regs with cfg := hcfg, phase := decide_eq_true (State.four_fs_pos hcfg), baseline := rfl },
      State.taskLegal_of_none (State.task_of_not_toneLocked hlock)⟩

theorem writeBaseFreq_inv {s : State} (h : s.Inv) (v : Word) : (writeBaseFreq s v).Inv := by
  refine cfgWrite_inv h fun hlock hlegal => ?_
  obtain ⟨-, -, hfs, ha, hl⟩ := State.cfgLegal_iff.1 h.regs.cfg
  simp only [Bool.and_eq_true, decide_eq_true_eq] at hlegal
  exact State.inv_iff.2
    ⟨{ h.regs with cfg := State.cfgLegal_iff.2 ⟨hlegal.1, hlegal.2, hfs, ha, hl⟩, baseline := rfl },
      State.taskLegal_of_none (State.task_of_not_toneLocked hlock)⟩

theorem writeAmplitude_inv {s : State} (h : s.Inv) (v : Word) : (writeAmplitude s v).Inv := by
  refine cfgWrite_inv h fun hlock hlegal => ?_
  obtain ⟨hf0, hf, hfs, -, hl⟩ := State.cfgLegal_iff.1 h.regs.cfg
  exact State.inv_iff.2
    ⟨{ h.regs with cfg := State.cfgLegal_iff.2 ⟨hf0, hf, hfs, of_decide_eq_true hlegal, hl⟩ },
      State.taskLegal_of_none (State.task_of_not_toneLocked hlock)⟩

theorem writeLeadin_inv {s : State} (h : s.Inv) (v : Word) : (writeLeadin s v).Inv := by
  refine cfgWrite_inv h fun hlock hlegal => ?_
  obtain ⟨hf0, hf, hfs, ha, -⟩ := State.cfgLegal_iff.1 h.regs.cfg
  exact State.inv_iff.2
    ⟨{ h.regs with cfg := State.cfgLegal_iff.2 ⟨hf0, hf, hfs, ha, of_decide_eq_true hlegal⟩ },
      State.taskLegal_of_none (State.task_of_not_toneLocked hlock)⟩

theorem softReset_inv {s : State} (h : s.RegsInv) : s.softReset.Inv :=
  State.inv_iff.2
    ⟨{ h with phase := decide_eq_true (State.four_fs_pos h.cfg), baseline := rfl, errPos := rfl }, rfl⟩

theorem clrErr_inv {s : State} (h : s.Inv) : s.clrErr.Inv :=
  State.inv_iff.2 ⟨{ h.regs with errPos := rfl }, (State.inv_iff.1 h).2⟩

theorem writeCtrl_inv {s : State} (h : s.Inv) (v : Word) : (writeCtrl s v).Inv := by
  unfold writeCtrl
  split
  · exact softReset_inv h.regs
  · split
    · exact clrErr_inv h
    · exact h

theorem writeReg_inv {s : State} (h : s.Inv) (v : Word) (r : Reg) : (writeReg s v r).Inv := by
  cases r with
  | ctrl => exact writeCtrl_inv h v
  | cfgSampleRate => exact writeSampleRate_inv h v
  | cfgBaseFreq => exact writeBaseFreq_inv h v
  | cfgAmplitude => exact writeAmplitude_inv h v
  | cfgLeadin => exact writeLeadin_inv h v
  | cfgSeq => exact cfgWrite_inv h fun _ _ => h
  | _ => exact h

/-- An open access lies in the buffer with all its bytes, no command running (20_memory.md R57, R59). -/
theorem State.bufferOpen_inBuffer {s : State} {addr : BitVec 12} {size : AccessSize}
    (h : s.bufferOpen addr size = true) : s.task = none ∧ ∀ k, k < size.bytes → inBuffer (addr.toNat + k) = true := by
  simp only [State.bufferOpen, aligned, Bool.and_eq_true, beq_iff_eq, Bool.not_eq_true', inBuffer_iff] at h
  obtain ⟨⟨⟨hlo, hhi⟩, hal⟩, hbusy⟩ := h
  refine ⟨(State.busy_eq_false s).1 hbusy, fun k hk => inBuffer_iff.2 ?_⟩
  cases size <;> simp only [AccessSize.bytes] at hal hk <;> omega

theorem writeBytes_inv {s : State} (h : s.Inv) {addr : BitVec 12} {size : AccessSize} (v : Nat)
    (hopen : s.bufferOpen addr size = true) : (s.writeBytes addr.toNat v size.bytes).Inv := by
  obtain ⟨htask, hbuf⟩ := State.bufferOpen_inBuffer hopen
  refine State.inv_iff.2 ⟨h.regs.writeBytes _ _ _ hbuf, State.taskLegal_of_none ?_⟩
  obtain ⟨m, hm⟩ := s.writeBytes_eq addr.toNat v size.bytes
  rw [hm]
  exact htask

theorem hostPort_inv {s : State} (h : s.Inv) (a : Access) : (hostPort s a).Inv := by
  obtain ⟨resp, d, heq⟩ | ⟨addr, v, r, -, -, heq⟩ | ⟨addr, size, v, hopen, heq⟩ := hostPort_cases s a
  · rw [heq]; exact h
  · rw [heq]; exact writeReg_inv h v r
  · rw [heq]; exact writeBytes_inv h v hopen

theorem reset_inv : State.reset.Inv := by decide

theorem powerOn_inv (s : State) : s.powerOn.Inv := reset_inv

/-- Settles O59: each move of the environment keeps the invariant. -/
theorem stepKeepsTheInvariant : Obligations.StepKeepsTheInvariant := by
  unfold Obligations.StepKeepsTheInvariant
  intro s t hs h
  obtain ⟨-, rfl⟩ | ⟨rest, ⟨-, rfl⟩ | ⟨x, -, rfl⟩ | ⟨-, rfl⟩ | ⟨-, rfl⟩ | ⟨w, -, hw⟩ | ⟨a, -, -, rfl⟩⟩ := step_cases h
  · exact engineTurn_inv hs
  · exact engineTurn_inv (s := { s with moves := rest }) hs
  · exact hs
  · exact hs
  · exact powerOn_inv _
  · exact issueWord_inv (s := { s with moves := rest }) hs hw
  · exact hostPort_inv (s := { s with moves := rest }) hs a

/-- Settles O60, by evaluation. -/
theorem resetMeetsTheInvariant : Obligations.ResetMeetsTheInvariant := reset_inv

end Sys2Proof.Machine
end

section
/-!
SUPPORT. When a command's results are written, and who writes PHASE, EDGE_STATE, BASELINE and SEQ_STATE (10_state.md
section 6).
-/

namespace Sys2Proof.Machine

/-! ### Results at the end of a command -/

/-- From `s` to `t` a command runs on with its results standing, or it has ended and set DONE. -/
def RunsOnOrEnds (s t : State) : Prop :=
  (t.busy = true ∧ t.done = s.done ∧ t.result0 = s.result0 ∧ t.result1 = s.result1 ∧ t.timeout = s.timeout
    ∧ t.err = s.err ∧ t.errPos = s.errPos) ∨ (t.busy = false ∧ t.done = true)

theorem runsOnOrEnds_start (s : State) (k : Task) : RunsOnOrEnds s (s.start k) :=
  .inl ⟨rfl, rfl, rfl, rfl, rfl, rfl, rfl⟩

theorem runsOnOrEnds_finish (s : State) (r0 r1 : Nat) (b : Bool) : RunsOnOrEnds s (s.finish r0 r1 b) :=
  .inr ⟨rfl, rfl⟩

theorem EdgeEffect.runsOnOrEnds {s t : State} {use : EdgeUse} (h : EdgeEffect s use t) : RunsOnOrEnds s t := by
  cases h with
  | finish r0 r1 b => exact runsOnOrEnds_finish s r0 r1 b
  | abort code r0 r1 pos hcode hpos => exact .inr ⟨rfl, rfl⟩
  | await use' hlegal => exact runsOnOrEnds_start s _
  | acquire forBlock acc avg tot huse havg =>
    cases forBlock with
    | true => exact runsOnOrEnds_start s _
    | false => exact runsOnOrEnds_finish s avg tot false
  | store i v use' hlegal => exact runsOnOrEnds_start s _

theorem receiveStep_runsOnOrEnds (s : State) (n : Nat) (use : EdgeUse) (x : Sample) :
    RunsOnOrEnds s (receiveStep s n use x) := by
  obtain ⟨-, h⟩ | ⟨half, h⟩ := receiveStep_cases s n use x
  · rw [h]
    exact runsOnOrEnds_start s _
  · exact h.runsOnOrEnds

theorem emitStep_runsOnOrEnds (s : State) (pos : EmitPos) (n : Nat) : RunsOnOrEnds s (emitStep s pos n) := by
  obtain ⟨p', -, ⟨pos', -, h⟩ | ⟨tx, r1, h⟩⟩ := emitStep_effect s pos n
  · rw [h]
    exact runsOnOrEnds_start s _
  · rw [h]
    exact runsOnOrEnds_finish s _ _ _

theorem engineTurn_runsOnOrEnds {s : State} (hbusy : s.busy = true) : RunsOnOrEnds s (engineTurn s) := by
  obtain h | ⟨pos, n, -, -, h⟩ | ⟨n, use, x, rest, -, -, h⟩ := engineTurn_cases s
  · rw [h]
    exact .inl ⟨hbusy, rfl, rfl, rfl, rfl, rfl, rfl⟩
  · rw [h]
    exact emitStep_runsOnOrEnds s pos n
  · rw [h]
    exact receiveStep_runsOnOrEnds { s with source := rest } n use x

/-- An engine move is the engine's turn, the move taken off the list. -/
theorem step_of_engineNext {s : State} (h : s.EngineNext) :
    ∃ rest, step s = .next (engineTurn { s with moves := rest }) := by
  obtain h | h := h
  · rw [State.nextMove, List.head?_eq_none_iff] at h
    exact ⟨s.moves, step_engine_default s h⟩
  · rw [State.nextMove, List.head?_eq_some_iff] at h
    obtain ⟨rest, h⟩ := h
    exact ⟨rest, step_move s .engine rest h⟩

/-- Settles O39: an engine step of a running command starts the next place or ends in `finish` or `raiseErr`. -/
theorem resultsAreWrittenAtTheEnd : Obligations.ResultsAreWrittenAtTheEnd := by
  unfold Obligations.ResultsAreWrittenAtTheEnd
  intro s t hengine hbusy h
  obtain ⟨rest, hstep⟩ := step_of_engineNext hengine
  rw [hstep] at h
  cases h
  obtain ⟨hruns, hresults⟩ | ⟨hends, hdone⟩ := engineTurn_runsOnOrEnds (s := { s with moves := rest }) hbusy
  · exact ⟨fun _ => hresults, fun hends => absurd hruns (by simp [hends])⟩
  · exact ⟨fun hruns => absurd hruns (by simp [hends]), fun _ => hdone⟩

/-! ### The engine state and its writers -/

/-- The engine state of 10_state.md section 6: PHASE, EDGE_STATE, BASELINE and SEQ_STATE (R41 to R44). -/
structure EngineState where
  phase : Word
  prevSample : Sample
  prevHalf : Bool
  baseline : Word
  expected : Byte
  final : Bool

/-- The engine state of a state of the block. -/
def State.engineState (s : State) : EngineState where
  phase := s.phase
  prevSample := s.prevSample
  prevHalf := s.prevHalf
  baseline := s.baseline
  expected := s.expected
  final := s.final

/-- Every way a step from `s` to `t` can change the engine state. -/
inductive EngineStateChange (s t : State) : Prop
  | stands (h : t.engineState = s.engineState)
  | emit (hnext : s.EngineNext) (pos : EmitPos) (n : Nat) (htask : s.task = some (.emit pos n))
      (h : t.engineState = { s.engineState with phase := t.phase })
  | receive (hnext : s.EngineNext) (n : Nat) (use : EdgeUse) (htask : s.task = some (.receive n use))
      (h : t.engineState = { s.engineState with
        prevSample := t.prevSample, prevHalf := t.prevHalf, baseline := t.baseline })
      (hbaseline : t.baseline = s.baseline ∨ ∃ forBlock acc, use = .sync forBlock acc)
  | rampUp (w : Word) (hnext : s.WritesNext cmdOffset w) (hw : decode w = .ok (.emitRamp 0#8))
      (h : t.engineState = { s.engineState with phase := t.phase })
  | sequence (w : Word) (i : Instr) (hnext : s.WritesNext cmdOffset w) (hw : decode w = .ok i)
      (hi : i = .seqInit ∨ ∃ n, i = .seqCheck n)
      (h : t.engineState = { s.engineState with expected := t.expected, final := t.final })
  | sampleRate (v : Word) (hnext : s.WritesNext 0x040#12 v)
      (h : t.engineState = { s.engineState with phase := t.phase })
  | softReset (v : Word) (hnext : s.WritesNext 0x004#12 v) (hv : v.getLsbD 0 = true)
  | powerOn (hnext : s.nextMove = some .powerOn)

/-! #### In an engine step -/

theorem emitStep_engineState (s : State) (pos : EmitPos) (n : Nat) :
    (emitStep s pos n).engineState = { s.engineState with phase := (emitStep s pos n).phase } := by
  obtain ⟨p', -, ⟨pos', -, h⟩ | ⟨tx, r1, h⟩⟩ := emitStep_effect s pos n
  · rw [h]
    rfl
  · rw [h]
    rfl

/-- Of the engine state the consumer of an edge writes only BASELINE, and only in an acquisition. -/
theorem EdgeEffect.engineState {s t : State} {use : EdgeUse} (h : EdgeEffect s use t) :
    t.engineState = { s.engineState with baseline := t.baseline }
      ∧ (t.baseline = s.baseline ∨ ∃ forBlock acc, use = .sync forBlock acc) := by
  cases h with
  | acquire forBlock acc avg tot huse havg =>
    refine ⟨?_, .inr ⟨forBlock, acc, huse⟩⟩
    cases forBlock <;> rfl
  | _ => exact ⟨rfl, .inl rfl⟩

theorem receiveStep_engineState (s : State) (n : Nat) (use : EdgeUse) (x : Sample) :
    let t := receiveStep s n use x
    t.engineState = { s.engineState with
        prevSample := t.prevSample, prevHalf := t.prevHalf, baseline := t.baseline }
      ∧ (t.baseline = s.baseline ∨ ∃ forBlock acc, use = .sync forBlock acc) := by
  obtain ⟨-, h⟩ | ⟨half, h⟩ := receiveStep_cases s n use x
  · rw [h]
    exact ⟨rfl, .inl rfl⟩
  · obtain ⟨heq, hbaseline⟩ := h.engineState
    simp only [State.engineState, EngineState.mk.injEq, true_and] at heq ⊢
    obtain ⟨hphase, -, -, hseq⟩ := heq
    exact ⟨⟨hphase, hseq⟩, hbaseline⟩

theorem engineTurn_change {s : State} (hnext : s.EngineNext) (rest : List Move) :
    EngineStateChange s (engineTurn { s with moves := rest }) := by
  obtain h | ⟨pos, n, htask, -, h⟩ | ⟨n, use, x, xs, htask, -, h⟩ := engineTurn_cases { s with moves := rest }
  · rw [h]
    exact .stands rfl
  · rw [h]
    exact .emit hnext pos n htask (emitStep_engineState { s with moves := rest } pos n)
  · rw [h]
    obtain ⟨heq, hbaseline⟩ := receiveStep_engineState { s with moves := rest, source := xs } n use x
    exact .receive hnext n use htask heq hbaseline

/-! #### In a CMD write -/

theorem directionOfCode_up {imm : Byte} (h : directionOfCode? imm = some .up) : imm = 0#8 := by
  simp only [directionOfCode?] at h
  split at h
  · assumption
  · split at h <;> cases h

/-- A command writes PHASE only as EMIT_RAMP UP and SEQ_STATE only as SEQ_INIT or SEQ_CHECK, and no other engine state. -/
theorem commandBody_engineState (i : Instr) (s : State) :
    (commandBody i s).engineState = s.engineState
      ∨ (i = .emitRamp 0#8 ∧ (commandBody i s).engineState = { s.engineState with phase := (commandBody i s).phase })
      ∨ ((i = .seqInit ∨ ∃ n, i = .seqCheck n) ∧ (commandBody i s).engineState
          = { s.engineState with expected := (commandBody i s).expected, final := (commandBody i s).final }) := by
  cases i with
  | cos | emitBit | decodeBit | decodeByte =>
    simp only [commandBody, runCos, runEmitBit, runDecodeBit, runDecodeByte]
    split <;> exact .inl rfl
  | emitRamp imm =>
    simp only [commandBody, runEmitRamp]
    split
    next hup =>
      cases directionOfCode_up hup
      split
      · exact .inl rfl
      · exact .inr (.inl ⟨rfl, rfl⟩)
    · split <;> exact .inl rfl
    · exact .inl rfl
  | seqInit => exact .inr (.inr ⟨.inl rfl, rfl⟩)
  | seqCheck n =>
    refine .inr (.inr ⟨.inr ⟨n, rfl⟩, ?_⟩)
    simp only [commandBody, runSeqCheck]
    repeat' split
    all_goals rfl
  | _ => exact .inl rfl

theorem issueWord_change {s t : State} {w : Word} {rest : List Move} (hnext : s.WritesNext cmdOffset w)
    (h : issueWord w { s with moves := rest } = .next t) : EngineStateChange s t := by
  obtain rfl | rfl | ⟨i, hw, rfl⟩ | rfl := issueWord_cases h
  · exact .stands rfl
  · exact .stands rfl
  · obtain heq | ⟨rfl, heq⟩ | ⟨hi, heq⟩ := commandBody_engineState i (State.ack { s with moves := rest })
    · exact .stands heq
    · exact .rampUp w hnext hw heq
    · exact .sequence w i hnext hw hi heq
  · exact .stands rfl

/-! #### In another host access -/

/-- A refused configuration write leaves the engine state alone, so the write does if its acceptance does. -/
theorem cfgWrite_engineState {s accepted : State} {e : EngineState} (locked legal : Bool)
    (hs : s.engineState = e) (ha : accepted.engineState = e) : (cfgWrite s locked legal accepted).engineState = e := by
  obtain ⟨code, -, h⟩ | ⟨-, -, h⟩ := cfgWrite_cases s locked legal accepted
  · rw [h]
    exact hs
  · rw [h]
    exact ha

/-- A register write reaches the engine state only through a soft reset and, for PHASE, CFG_SAMPLE_RATE. -/
theorem writeReg_engineState (s : State) (v : Word) (r : Reg) :
    (writeReg s v r).engineState = s.engineState ∨ (r = .ctrl ∧ v.getLsbD 0 = true)
      ∨ (r = .cfgSampleRate ∧ (writeReg s v r).engineState = { s.engineState with phase := (writeReg s v r).phase }) := by
  cases r with
  | ctrl =>
    by_cases hv : v.getLsbD 0 = true
    · exact .inr (.inl ⟨rfl, hv⟩)
    · refine .inl ?_
      rw [writeReg, writeCtrl, if_neg hv]
      split <;> rfl
  | cfgSampleRate =>
    refine .inr (.inr ⟨rfl, ?_⟩)
    simp only [writeReg, writeSampleRate]
    obtain ⟨code, -, h⟩ | ⟨-, -, h⟩ := cfgWrite_cases s s.toneLocked
      (16 * s.cfgBaseFreq.toNat ≤ v.toNat && v.toNat ≤ Config.maxSampleRate)
      { s with cfgSampleRate := v, baselineValid := false, phase := 0#32 }
    · rw [h]
      rfl
    · rw [h]
      rfl
  | cfgBaseFreq | cfgAmplitude | cfgLeadin | cfgSeq => exact .inl (cfgWrite_engineState _ _ rfl rfl)
  | _ => exact .inl rfl

theorem hostPort_change {s : State} {a : Access} (hnext : s.nextMove = some (.host a)) (rest : List Move) :
    EngineStateChange s (hostPort { s with moves := rest } a) := by
  obtain ⟨resp, d, h⟩ | ⟨addr, v, r, rfl, haddr, h⟩ | ⟨addr, size, v, -, h⟩ := hostPort_cases { s with moves := rest } a
  · rw [h]
    exact .stands rfl
  · rw [h]
    obtain heq | ⟨rfl, hv⟩ | ⟨rfl, heq⟩ := writeReg_engineState { s with moves := rest } v r
    · exact .stands heq
    · obtain rfl : addr = 0x004#12 := BitVec.eq_of_toNat_eq haddr
      exact .softReset v hnext hv
    · obtain rfl : addr = 0x040#12 := BitVec.eq_of_toNat_eq haddr
      exact .sampleRate v hnext heq
  · obtain ⟨m, hm⟩ := State.writeBytes_eq { s with moves := rest } addr.toNat v size.bytes
    rw [h, hm]
    exact .stands rfl

/-! #### In any step -/

theorem step_engineStateChange {s t : State} (h : step s = .next t) : EngineStateChange s t := by
  obtain ⟨hm, rfl⟩ | ⟨rest, ⟨hm, rfl⟩ | ⟨x, -, rfl⟩ | ⟨-, rfl⟩ | ⟨hm, rfl⟩ | ⟨w, hm, hw⟩ | ⟨a, hm, -, rfl⟩⟩ := step_cases h
  · exact engineTurn_change (.inl (by simp [State.nextMove, hm])) s.moves
  · exact engineTurn_change (.inr (by simp [State.nextMove, hm])) rest
  · exact .stands rfl
  · exact .stands rfl
  · exact .powerOn (by simp [State.nextMove, hm])
  · exact issueWord_change (by simp [State.WritesNext, State.nextMove, hm]) hw
  · exact hostPort_change (by simp [State.nextMove, hm]) rest

/-- Settles O55: of the ways the engine state changes, these change PHASE. -/
theorem phaseHasItsWriters : Obligations.PhaseHasItsWriters := by
  unfold Obligations.PhaseHasItsWriters
  intro s t h hne
  cases step_engineStateChange h with
  | stands heq => exact absurd (congrArg EngineState.phase heq) hne
  | emit hnext pos n htask _ => exact .inl ⟨hnext, pos, n, htask⟩
  | receive _ n use _ heq _ => exact absurd (congrArg EngineState.phase heq) hne
  | rampUp w hnext hw _ => exact .inr (.inl ⟨w, hnext, hw⟩)
  | sequence w i _ _ _ heq => exact absurd (congrArg EngineState.phase heq) hne
  | sampleRate v hnext _ => exact .inr (.inr (.inl ⟨v, hnext⟩))
  | softReset v hnext hv => exact .inr (.inr (.inr (.inl ⟨v, hnext, hv⟩)))
  | powerOn hnext => exact .inr (.inr (.inr (.inr hnext)))

/-- Settles O56: of the ways the engine state changes, these change EDGE_STATE. -/
theorem edgeStateHasItsWriters : Obligations.EdgeStateHasItsWriters := by
  unfold Obligations.EdgeStateHasItsWriters
  intro s t h hne
  have changed {e : EngineState} (heq : t.engineState = e) (hs : e.prevSample = s.prevSample)
      (hh : e.prevHalf = s.prevHalf) : False :=
    hne.elim (absurd ((congrArg EngineState.prevSample heq).trans hs))
      (absurd ((congrArg EngineState.prevHalf heq).trans hh))
  cases step_engineStateChange h with
  | receive hnext n use htask _ _ => exact .inl ⟨hnext, n, use, htask⟩
  | softReset v hnext hv => exact .inr (.inl ⟨v, hnext, hv⟩)
  | powerOn hnext => exact .inr (.inr hnext)
  | stands heq | emit _ _ _ _ heq | rampUp _ _ _ heq | sequence _ _ _ _ _ heq | sampleRate _ _ heq =>
    exact (changed heq rfl rfl).elim

/-- Settles O57: of the ways the engine state changes, these change BASELINE. -/
theorem baselineHasItsWriters : Obligations.BaselineHasItsWriters := by
  unfold Obligations.BaselineHasItsWriters
  intro s t h hne
  cases step_engineStateChange h with
  | receive hnext n use htask _ hbaseline =>
    obtain heq | ⟨forBlock, acc, rfl⟩ := hbaseline
    · exact absurd heq hne
    · exact .inl ⟨hnext, n, forBlock, acc, htask⟩
  | softReset v hnext hv => exact .inr (.inl ⟨v, hnext, hv⟩)
  | powerOn hnext => exact .inr (.inr hnext)
  | stands heq | emit _ _ _ _ heq | rampUp _ _ _ heq | sequence _ _ _ _ _ heq | sampleRate _ _ heq =>
    exact absurd (congrArg EngineState.baseline heq) hne

/-- Settles O58: of the ways the engine state changes, these change SEQ_STATE. -/
theorem sequenceStateHasItsWriters : Obligations.SequenceStateHasItsWriters := by
  unfold Obligations.SequenceStateHasItsWriters
  intro s t h hne
  have changed {e : EngineState} (heq : t.engineState = e) (he : e.expected = s.expected)
      (hf : e.final = s.final) : False :=
    hne.elim (absurd ((congrArg EngineState.expected heq).trans he)) (absurd ((congrArg EngineState.final heq).trans hf))
  cases step_engineStateChange h with
  | sequence w i hnext hw hi _ => exact .inl ⟨w, i, hnext, hw, hi⟩
  | softReset v hnext hv => exact .inr (.inl ⟨v, hnext, hv⟩)
  | powerOn hnext => exact .inr (.inr hnext)
  | stands heq | emit _ _ _ _ heq | receive _ _ _ _ heq _ | rampUp _ _ _ heq | sampleRate _ _ heq =>
    exact (changed heq rfl rfl).elim

end Sys2Proof.Machine
end

section
/-!
SUPPORT. What the host reads in the registers, and the CMD write that is dropped (10_state.md R21 to R44, R48).
-/

namespace Sys2Proof.Machine

/-! ### A CMD write while a command runs -/

/-- Settles O7: whatever the word, its issue begins with the BUSY check. -/
theorem cmdWriteWhileBusyIsDropped : Obligations.CmdWriteWhileBusyIsDropped := by
  unfold Obligations.CmdWriteWhileBusyIsDropped
  intro s w rest hm hbusy
  obtain ⟨run, hrun⟩ := issueWord_eq_issue w { s with moves := rest }
  rw [step_move s _ rest hm, perform, hostStep_cmd, hrun]
  exact State.issue_busy (State.ack { s with moves := rest }) run hbusy

/-! ### A register access is one step -/

theorem step_readReg {s : State} {addr : BitVec 12} {rest : List Move} (r : Reg)
    (hm : s.moves = .host (.read addr .word) :: rest) (haddr : addr.toNat = r.offset) :
    step s = .next (readReg { s with moves := rest } r) := by
  rw [step_move s _ rest hm]
  simp only [perform, hostStep, Access.cmdWord?, hostPort, regAt_eq_some.2 ⟨rfl, haddr⟩]

theorem step_writeReg {s : State} {addr : BitVec 12} {v : Word} {rest : List Move} (r : Reg)
    (hm : s.moves = .host (.write addr .word v) :: rest) (haddr : addr.toNat = r.offset) (hcmd : addr ≠ cmdOffset) :
    step s = .next (writeReg { s with moves := rest } v r).ack := by
  rw [step_move s _ rest hm]
  simp only [perform, hostStep, Access.cmdWord?, if_neg hcmd, hostPort, regAt_eq_some.2 ⟨rfl, haddr⟩]

/-! ### Register words made of fields -/

theorem getLsbD_flagBit (b : Bool) {i : Nat} (j : Nat) (hi : i < 32) :
    (flagBit b i).getLsbD j = (b && decide (j = i)) := by
  cases b with
  | false => simp [flagBit]
  | true =>
    simp only [flagBit, if_true, BitVec.getLsbD_shiftLeft, BitVec.getLsbD_one]
    grind

theorem State.cfgSeqWord_eq_append (s : State) :
    s.cfgSeqWord = 0#16 ++ s.seqFirst ++ 0#7 ++ BitVec.ofBool s.passthrough := by
  apply BitVec.eq_of_getLsbD_eq
  intro i hi
  simp only [State.cfgSeqWord, BitVec.getLsbD_append, BitVec.getLsbD_or, getLsbD_flagBit, Nat.reduceLT,
    BitVec.getLsbD_shiftLeft, BitVec.getLsbD_setWidth, BitVec.getLsbD_zero, BitVec.getLsbD_ofBool]
  grind

theorem State.edgeStateWord_eq_append (s : State) :
    s.edgeStateWord = (if s.prevHalf then 64#16 else 0#16) ++ s.prevSample := by
  simp only [State.edgeStateWord, State.prevOffset]
  split <;> rfl

theorem State.seqStateWord_eq_append (s : State) : s.seqStateWord = 0#23 ++ BitVec.ofBool s.final ++ s.expected := by
  apply BitVec.eq_of_getLsbD_eq
  intro i hi
  simp only [State.seqStateWord, BitVec.getLsbD_append, BitVec.getLsbD_or,
    getLsbD_flagBit, Nat.reduceLT, BitVec.getLsbD_setWidth, BitVec.getLsbD_zero, BitVec.getLsbD_ofBool]
  grind

/-- Settles O43, register by register. -/
theorem registersReadTheirValues : Obligations.RegistersReadTheirValues := by
  unfold Obligations.RegistersReadTheirValues
  intro s addr v rest
  refine ⟨fun hm hread => ?_, fun hm => step_writeReg .arg0 hm rfl (by decide),
    fun hm => step_writeReg .arg1 hm rfl (by decide)⟩
  simp only [List.mem_cons, Prod.mk.injEq, List.not_mem_nil, or_false, ← State.cfgSeqWord_eq_append,
    ← State.edgeStateWord_eq_append, ← State.seqStateWord_eq_append] at hread
  obtain hread | ⟨hbusy, hread⟩ := hread
  · obtain ⟨h, rfl⟩ | ⟨h, rfl⟩ | ⟨h, rfl⟩ | ⟨h, rfl⟩ | ⟨h, rfl⟩ | ⟨h, rfl⟩ | ⟨h, rfl⟩ | ⟨h, rfl⟩ | ⟨h, rfl⟩ | ⟨h, rfl⟩
      | ⟨h, rfl⟩ | ⟨h, rfl⟩ := hread
    · exact step_readReg .id hm h
    · exact step_readReg .arg0 hm h
    · exact step_readReg .arg1 hm h
    · exact step_readReg .result0 hm h
    · exact step_readReg .result1 hm h
    · exact step_readReg .errPos hm h
    · exact step_readReg .cfgSampleRate hm h
    · exact step_readReg .cfgBaseFreq hm h
    · exact step_readReg .cfgAmplitude hm h
    · exact step_readReg .cfgLeadin hm h
    · exact step_readReg .cfgSeq hm h
    · exact step_readReg .seqState hm h
  · have hnot : ¬ State.busy { s with moves := rest } = true := by simpa [State.busy] using hbusy
    obtain ⟨h, rfl⟩ | ⟨h, rfl⟩ | ⟨h, rfl⟩ := hread
    · rw [step_readReg .phase hm h, readReg, if_neg hnot]
      rfl
    · rw [step_readReg .edgeState hm h, readReg, if_neg hnot]
      rfl
    · rw [step_readReg .baseline hm h, readReg, if_neg hnot]
      rfl

/-! ### The STATUS word -/

theorem State.getLsbD_statusWord (s : State) {i : Nat} (hi : i < 32) :
    s.statusWord.getLsbD i
      = (s.busy && decide (i = 0) || s.done && decide (i = 1) || s.timeout && decide (i = 2)
        || s.txActive && decide (i = 3) || s.firstPending && decide (i = 4) || s.baselineValid && decide (i = 5)
        || s.overrun && decide (i = 7) || decide (8 ≤ i) && s.err.code.getLsbD (i - 8)) := by
  simp only [State.statusWord, BitVec.getLsbD_or, getLsbD_flagBit, Nat.reduceLT, BitVec.getLsbD_shiftLeft,
    BitVec.getLsbD_setWidth]
  grind

theorem getLsbD_statusOpenMask {i : Nat} (hi : i < 32) :
    statusOpenMask.getLsbD i = decide (2 ≤ i ∧ i ≤ 5) := by
  have h : ∀ j : Fin 32, statusOpenMask.getLsbD j = decide (2 ≤ j.val ∧ j.val ≤ 5) := by decide
  exact h ⟨i, hi⟩

/-- A draw shows in bits 2 to 5 alone (20_memory.md R64). -/
theorem State.getLsbD_statusWordDrawn (s : State) (draw : Word) {i : Nat} (hi : i < 32) (hclosed : i < 2 ∨ 5 < i) :
    (s.statusWordDrawn draw).getLsbD i = s.statusWord.getLsbD i := by
  have hmask : statusOpenMask.getLsbD i = false := by
    rw [getLsbD_statusOpenMask hi]
    exact decide_eq_false (by omega)
  simp only [State.statusWordDrawn, BitVec.getLsbD_or, BitVec.getLsbD_and, BitVec.getLsbD_not, hmask, hi, decide_true,
    Bool.not_false, Bool.and_true, Bool.and_false, Bool.or_false]

/-- A word that is the STATUS word outside bits 2 to 5 shows the fields that stand there (10_state.md R23). -/
theorem status_fields_of_closed_bits {s : State} {w : Word}
    (h : ∀ i, i < 32 → i < 2 ∨ 5 < i → w.getLsbD i = s.statusWord.getLsbD i) :
    w.getLsbD 0 = s.busy ∧ w.getLsbD 1 = s.done ∧ w.getLsbD 6 = false ∧ w.getLsbD 7 = s.overrun
      ∧ w.extractLsb' 8 4 = s.err.code ∧ w.extractLsb' 12 20 = 0#20 := by
  have hw (i : Nat) (hi : i < 32) (hclosed : i < 2 ∨ 5 < i) := (h i hi hclosed).trans (s.getLsbD_statusWord hi)
  refine ⟨?_, ?_, ?_, ?_, ?_, ?_⟩
  · exact (hw 0 (by decide) (by decide)).trans (by simp)
  · exact (hw 1 (by decide) (by decide)).trans (by simp)
  · exact (hw 6 (by decide) (by decide)).trans (by simp)
  · exact (hw 7 (by decide) (by decide)).trans (by simp)
  · apply BitVec.eq_of_getLsbD_eq
    intro i hi
    rw [BitVec.getLsbD_extractLsb', hw (8 + i) (by omega) (by omega)]
    grind
  · apply BitVec.eq_of_getLsbD_eq
    intro i hi
    rw [BitVec.getLsbD_extractLsb', hw (12 + i) (by omega) (by omega)]
    grind

/-- The open bits of the STATUS word (10_state.md R23). -/
theorem State.statusWord_open_bits (s : State) :
    s.statusWord.getLsbD 2 = s.timeout ∧ s.statusWord.getLsbD 3 = s.txActive
      ∧ s.statusWord.getLsbD 4 = s.firstPending ∧ s.statusWord.getLsbD 5 = s.baselineValid := by
  refine ⟨?_, ?_, ?_, ?_⟩ <;> rw [s.getLsbD_statusWord (by decide)] <;> simp

/-- Settles O49: the word read is the STATUS word, or while BUSY = 1 that word with a draw in its open bits. -/
theorem statusReadsItsFields : Obligations.StatusReadsItsFields := by
  unfold Obligations.StatusReadsItsFields
  intro s rest hm
  have hstep := step_readReg .status hm rfl
  cases hbusy : s.busy with
  | true =>
    have hread : readReg { s with moves := rest } .status = State.answerDrawn { s with moves := rest } s.statusWordDrawn :=
      if_pos hbusy
    rw [hread] at hstep
    obtain ⟨h0, h1, h6, h7, hcode, hres⟩ :=
      status_fields_of_closed_bits (s := s) fun i => s.getLsbD_statusWordDrawn (Config.busyDraw s.draws)
    exact ⟨_, _, hstep, rfl, h0.trans hbusy, h1, h6, h7, hcode, hres, nofun⟩
  | false =>
    have hread : readReg { s with moves := rest } .status = State.answer { s with moves := rest } s.statusWord :=
      if_neg (by simpa [State.busy] using hbusy)
    rw [hread] at hstep
    obtain ⟨h0, h1, h6, h7, hcode, hres⟩ := status_fields_of_closed_bits (s := s) fun i _ _ => rfl
    exact ⟨_, _, hstep, rfl, h0.trans hbusy, h1, h6, h7, hcode, hres, fun _ => s.statusWord_open_bits⟩

/-! ### The values at reset -/

/-- Settles O51: the fields hold the values of R48, and the words made of them are evaluated. -/
theorem resetValuesAreTheSpecs : Obligations.ResetValuesAreTheSpecs := by
  unfold Obligations.ResetValuesAreTheSpecs
  decide

end Sys2Proof.Machine
end

section
/-!
SUPPORT. What a host access of the buffer or of no register does, and what the engine does to the streams it waits for and
to the buffer (20_memory.md R51 to R68).
-/

namespace Sys2Proof.Machine

/-! ### Which path of the port an access takes -/

theorem Reg.offset_mem (r : Reg) : r.offset ∈ registerOffsets := by cases r <;> decide

/-- The registers lie below the buffer (20_memory.md R51, R56). -/
theorem Reg.offset_lt (r : Reg) : r.offset < 0x100 := by cases r <;> decide

/-- An offset from the buffer on is no register's. -/
theorem regAt_of_ge {addr : BitVec 12} (h : 0x100 ≤ addr.toNat) (size : AccessSize) : regAt addr size = none :=
  Option.eq_none_iff_forall_ne_some.2 fun r hr => absurd r.offset_lt (by rw [← (regAt_eq_some.1 hr).2]; omega)

/-- An access that is not 4 bytes wide at a register's offset reaches none (20_memory.md R52, R53). -/
theorem regAt_of_unmapped {addr : BitVec 12} {size : AccessSize}
    (h : ¬ (size = .word ∧ addr.toNat ∈ registerOffsets)) : regAt addr size = none :=
  Option.eq_none_iff_forall_ne_some.2 fun r hr =>
    have ⟨hsize, haddr⟩ := regAt_eq_some.1 hr
    h ⟨hsize, haddr ▸ r.offset_mem⟩

/-- The buffer is open to an aligned access inside it with BUSY = 0 (20_memory.md R56, R57, R59). -/
theorem State.bufferOpen_iff {s : State} {addr : BitVec 12} {size : AccessSize} :
    s.bufferOpen addr size = true
      ↔ (0x100 ≤ addr.toNat ∧ addr.toNat < 0x180) ∧ addr.toNat % size.bytes = 0 ∧ s.busy = false := by
  simp only [State.bufferOpen, aligned, Bool.and_eq_true, beq_iff_eq, Bool.not_eq_true', inBuffer_iff, and_assoc]

/-- An access that writes no command word is the port's in one step. -/
theorem step_hostPort {s : State} {a : Access} {rest : List Move} (hm : s.moves = .host a :: rest)
    (ha : a.cmdWord? = none) : step s = .next (hostPort { s with moves := rest } a) := by
  rw [step_move s _ rest hm]
  simp only [perform, hostStep, ha]

/-- A command word is written to a register, CMD. -/
theorem cmdWord?_of_regAt_eq_none {addr : BitVec 12} {size : AccessSize} {v : Word} (h : regAt addr size = none) :
    (Access.write addr size v).cmdWord? = none :=
  Option.eq_none_iff_forall_ne_some.2 fun w hw => by
    cases Access.cmdWord?_eq_some hw
    cases h

/-! ### Bus errors -/

theorem hostPort_busError {s : State} {a : Access} {addr : BitVec 12} {size : AccessSize}
    (ha : a = .read addr size ∨ ∃ v, a = .write addr size v) (hreg : regAt addr size = none)
    (hopen : s.bufferOpen addr size = false) : hostPort s a = s.busError := by
  obtain rfl | ⟨v, rfl⟩ := ha <;> simp [hostPort, hreg, hopen]

/-- Settles O40: such an access reaches no register and finds the buffer closed. -/
theorem busErrorChangesNothing : Obligations.BusErrorChangesNothing := by
  unfold Obligations.BusErrorChangesNothing
  intro s a addr size rest hm ha hbad
  have hreg : regAt addr size = none := by
    obtain ⟨-, hunmapped⟩ | ⟨hlo, -⟩ | hhi := hbad
    · exact regAt_of_unmapped hunmapped
    · exact regAt_of_ge hlo size
    · exact regAt_of_ge (by omega) size
  have hopen : State.bufferOpen { s with moves := rest } addr size = false := by
    refine Bool.eq_false_iff.2 fun h => ?_
    obtain ⟨⟨hlo, hhi⟩, haligned, hidle⟩ := State.bufferOpen_iff.1 h
    obtain ⟨hlow, -⟩ | ⟨-, -, hmis | hbusy⟩ | hhigh := hbad
    · omega
    · exact hmis haligned
    · exact absurd (hbusy.symm.trans hidle) (by decide)
    · omega
  have hcmd : a.cmdWord? = none := by
    obtain rfl | ⟨v, rfl⟩ := ha
    · rfl
    · exact cmdWord?_of_regAt_eq_none hreg
  rw [step_hostPort hm hcmd, hostPort_busError ha hreg hopen]
  rfl

/-! ### Reads -/

/-- Only a read while BUSY = 1 takes a draw (20_memory.md R64). -/
theorem readReg_draws_of_idle {s : State} (h : s.busy = false) (r : Reg) : (readReg s r).draws = s.draws := by
  cases r with
  | status | phase | edgeState | baseline => simp [readReg, h]
  | _ => rfl

theorem hostPort_read_eq (s : State) (addr : BitVec 12) (size : AccessSize) :
    ∃ resp d, hostPort s (.read addr size) = { s with response := resp, draws := d }
      ∧ (s.busy = false → d = s.draws) := by
  simp only [hostPort]
  split
  next r hr =>
    obtain ⟨resp, d, h⟩ := readReg_eq s r
    exact ⟨resp, d, h, fun hidle => by simpa [h] using readReg_draws_of_idle hidle r⟩
  · split
    · exact ⟨_, s.draws, rfl, fun _ => rfl⟩
    · exact ⟨_, s.draws, rfl, fun _ => rfl⟩

/-- Settles O41: a read is the port's, which answers it. -/
theorem readsHaveNoSideEffects : Obligations.ReadsHaveNoSideEffects := by
  unfold Obligations.ReadsHaveNoSideEffects
  intro s addr size rest hm
  obtain ⟨resp, d, h, hidle⟩ := hostPort_read_eq { s with moves := rest } addr size
  exact ⟨resp, d, by rw [step_hostPort hm rfl, h], hidle⟩

/-! ### Read-only and write-only registers -/

/-- The read-only registers (20_memory.md R51, R54). -/
def readOnlyRegs : List Reg := [.id, .result0, .result1, .errPos, .phase, .edgeState, .baseline, .seqState]

theorem writeReg_readOnly (s : State) (v : Word) {r : Reg} (h : r ∈ readOnlyRegs) : writeReg s v r = s := by
  cases r with
  | id | result0 | result1 | errPos | phase | edgeState | baseline | seqState => rfl
  | _ => exact absurd h (by decide)

/-- Settles O42: a write reaches `writeReg` of a read-only register, a read the 0 of CTRL and CMD. -/
theorem readOnlyAndWriteOnlyRegisters : Obligations.ReadOnlyAndWriteOnlyRegisters := by
  unfold Obligations.ReadOnlyAndWriteOnlyRegisters
  intro s addr v rest
  refine ⟨fun hm haddr => ?_, fun hm haddr => ?_⟩
  · have hcmd : addr ≠ cmdOffset := by rintro rfl; exact absurd haddr (by decide)
    obtain ⟨r, hr, hoffset⟩ := (List.mem_map (f := Reg.offset) (l := readOnlyRegs)).1 haddr
    rw [step_writeReg r hm hoffset.symm hcmd, writeReg_readOnly _ v hr]
    rfl
  · obtain h | h : addr.toNat = 0x004 ∨ addr.toNat = 0x00C := by simpa using haddr
    · exact step_readReg .ctrl hm h
    · exact step_readReg .cmd hm h

/-! ### Buffer accesses -/

/-- The bytes of `v` read back little-endian are `v`, cut to their width (20_memory.md R58). -/
theorem State.readBytes_of_bytes {s : State} {a v n : Nat}
    (h : ∀ k, k < n → s.readByte (a + k) = BitVec.ofNat 8 (v / 256 ^ k)) : s.readBytes a n = v % 256 ^ n := by
  induction n generalizing a v with
  | zero => rw [State.readBytes, Nat.pow_zero, Nat.mod_one]
  | succ n ih =>
    have hlow : s.readByte a = BitVec.ofNat 8 v := by simpa using h 0 n.succ_pos
    have hhigh : s.readBytes (a + 1) n = v / 256 % 256 ^ n := ih fun k hk => by
      rw [show a + 1 + k = a + (k + 1) by omega, h (k + 1) (by omega), Nat.div_div_eq_div_mul, Nat.pow_succ,
        Nat.mul_comm 256]
    calc s.readBytes a (n + 1)
      _ = v % 256 + 256 * (v / 256 % 256 ^ n) := by rw [State.readBytes, hlow, hhigh, BitVec.toNat_ofNat]
      _ = v % (256 * 256 ^ n) := Nat.mod_mul.symm
      _ = v % 256 ^ (n + 1) := by rw [Nat.pow_succ']

/-- Byte `k` of a word by division (20_memory.md R58). -/
theorem extractLsb'_byte (v : Word) (k : Nat) : v.extractLsb' (8 * k) 8 = BitVec.ofNat 8 (v.toNat / 256 ^ k) := by
  rw [BitVec.extractLsb', Nat.shiftRight_eq_div_pow, Nat.pow_mul]

theorem hostPort_read_buffer {s : State} {addr : BitVec 12} {size : AccessSize} (h : s.bufferOpen addr size = true) :
    hostPort s (.read addr size) = s.answer (BitVec.ofNat 32 (s.readBytes addr.toNat size.bytes)) := by
  obtain ⟨⟨hlo, -⟩, -⟩ := State.bufferOpen_iff.1 h
  simp only [hostPort, regAt_of_ge hlo size, h, if_true]

theorem hostPort_write_buffer {s : State} {addr : BitVec 12} {size : AccessSize} (v : Word)
    (h : s.bufferOpen addr size = true) :
    hostPort s (.write addr size v) = (s.writeBytes addr.toNat v.toNat size.bytes).ack := by
  obtain ⟨⟨hlo, -⟩, -⟩ := State.bufferOpen_iff.1 h
  simp only [hostPort, regAt_of_ge hlo size, h, if_true]

/-- A buffer write leaves the buffer as open as it was. -/
theorem State.bufferOpen_writeBytes (s : State) (a v n : Nat) (addr : BitVec 12) (size : AccessSize) :
    (s.writeBytes a v n).ack.bufferOpen addr size = s.bufferOpen addr size := by
  obtain ⟨m, hm⟩ := s.writeBytes_eq a v n
  rw [hm]
  rfl

/-- Settles O44: the bytes of the write are those of `v`, and the read puts them together again. -/
theorem bufferIsLittleEndian : Obligations.BufferIsLittleEndian := by
  unfold Obligations.BufferIsLittleEndian
  intro s addr size v hidle hlo hhi haligned
  have hopen : s.bufferOpen addr size = true := State.bufferOpen_iff.2 ⟨⟨hlo, hhi⟩, haligned, hidle⟩
  have hbyte (k : Nat) (hk : k < size.bytes) :
      (s.writeBytes addr.toNat v.toNat size.bytes).ack.readByte (addr.toNat + k)
        = BitVec.ofNat 8 (v.toNat / 256 ^ k) :=
    s.readByte_writeBytes_same _ _ _ _ hk
  rw [hostPort_write_buffer v hopen]
  refine ⟨?_, fun k hk => (hbyte k hk).trans (extractLsb'_byte v k).symm,
    fun a ha => s.readByte_writeBytes_other _ _ _ _ ha⟩
  rw [hostPort_read_buffer ((s.bufferOpen_writeBytes ..).trans hopen), State.answer_response,
    State.readBytes_of_bytes hbyte, Nat.pow_mul]

/-! ### The engine and the streams -/

theorem step_engineTurn_tail {s : State} (h : s.EngineNext) :
    step s = .next (engineTurn { s with moves := s.moves.tail }) := by
  obtain h | h := h
  · rw [State.nextMove, List.head?_eq_none_iff] at h
    rw [step_engine_default s h, h, List.tail_nil, ← h]
  · rw [State.nextMove, List.head?_eq_some_iff] at h
    obtain ⟨rest, h⟩ := h
    rw [step_move s .engine rest h, h]
    rfl

/-- Settles O35: the engine's turn holds. -/
theorem engineWaitsForTheStreams : Obligations.EngineWaitsForTheStreams := by
  unfold Obligations.EngineWaitsForTheStreams
  intro s hnext hstalled
  refine (step_engineTurn_tail hnext).trans (congrArg _ ?_)
  obtain ⟨pos, n, htask, hsink⟩ | ⟨n, use, htask, hsource⟩ := hstalled
  · exact engineTurn_hold_push _ pos n htask hsink
  · exact engineTurn_hold_pull _ n use htask hsource

/-! ### The engine and the buffer -/

/-- From `s` to `t` the byte at `a` stands, or it is `Buf[pos - 1]` and has become the decoded byte `v`, the consumer `use`
having waited for the second edge of the ninth bit of frame position `pos` (44_demodulator.md R184). -/
def ByteStandsOrIsDecoded (s t : State) (use : EdgeUse) (a : Nat) : Prop :=
  t.readByte a = s.readByte a
    ∨ ∃ f pos num cs v, use = .second f (.block pos num cs 8 v) ∧ 1 ≤ pos ∧ pos ≤ 128 ∧ a = bufOffset (pos - 1)
      ∧ t.readByte a = v

theorem reportEdge_readByte (s : State) (e : EdgeOutcome) (a : Nat) : (reportEdge s e).readByte a = s.readByte a := by
  cases e <;> rfl

theorem acquireEdge_readByte (s : State) (forBlock : Bool) (acc : SyncAcc) (e : EdgeOutcome) (a : Nat) :
    (acquireEdge s forBlock acc e).readByte a = s.readByte a := by
  unfold acquireEdge
  split
  · rfl
  · cases forBlock <;> rfl
  · rfl

theorem bitFirstEdge_readByte (s : State) (use : BitUse) (e : EdgeOutcome) (a : Nat) :
    (bitFirstEdge s use e).readByte a = s.readByte a := by
  cases e with
  | timeout d n => rfl
  | edge f n =>
    simp only [bitFirstEdge]
    split <;> rfl

/-- The byte is complete with a TERMINATOR after its eight data bits, which are the byte (44_demodulator.md R181). -/
theorem byteStep_byte {i : Nat} {v v' : Byte} {b : BitValue} (h : byteStep i v b = .byte v') : 8 ≤ i ∧ v' = v := by
  simp only [byteStep] at h
  split at h
  · split at h <;> cases h
  next hi =>
    split at h <;> cases h
    exact ⟨Nat.le_of_not_lt hi, rfl⟩

theorem blockByte_byte (s : State) (f pos : Nat) (num cs v : Byte) (a : Nat) :
    ByteStandsOrIsDecoded s (blockByte s pos num cs v) (.second f (.block pos num cs 8 v)) a := by
  unfold blockByte
  split
  · exact .inl rfl
  next hpos =>
    split
    next hle =>
      by_cases ha : a = bufOffset (pos - 1)
      · subst ha
        exact .inr ⟨f, pos, num, cs, v, rfl, Nat.pos_of_ne_zero hpos, hle, rfl, s.readByte_writeByte_same _ v⟩
      · exact .inl (s.readByte_writeByte_other v ha)
    · split <;> exact .inl rfl

theorem gotBit_byte (s : State) (f : Nat) (use : BitUse) (b : BitValue) (a : Nat) (huse : bitUseLegal use = true) :
    ByteStandsOrIsDecoded s (gotBit s use b) (.second f use) a := by
  cases use with
  | bit => exact .inl rfl
  | byte i v =>
    simp only [gotBit]
    split <;> exact .inl rfl
  | block pos num cs i v =>
    simp only [gotBit]
    split
    · exact .inl rfl
    next h =>
      obtain ⟨hi, rfl⟩ := byteStep_byte h
      obtain rfl : i = 8 := Nat.le_antisymm (bitUseLegal_block.1 huse).2 hi
      exact blockByte_byte s f pos num cs _ a
    · exact .inl rfl
    · exact .inl rfl

theorem onEdge_byte (s : State) (use : EdgeUse) (e : EdgeOutcome) (a : Nat) (huse : edgeUseLegal s use = true) :
    ByteStandsOrIsDecoded s (onEdge s use e) use a := by
  cases use with
  | report => exact .inl (reportEdge_readByte s e a)
  | sync forBlock acc => exact .inl (acquireEdge_readByte s forBlock acc e a)
  | first use => exact .inl (bitFirstEdge_readByte s use e a)
  | second f use =>
    simp only [onEdge, bitSecondEdge]
    split
    · exact gotBit_byte s f use _ a (edgeUseLegal_second.1 huse).2.1
    · exact .inl rfl

theorem receiveStep_byte (s : State) (n : Nat) (use : EdgeUse) (x : Sample) (a : Nat)
    (huse : edgeUseLegal s use = true) : ByteStandsOrIsDecoded s (receiveStep s n use x) use a := by
  have consumed (half : Bool) (e : EdgeOutcome) : ByteStandsOrIsDecoded s (onEdge (s.pulled x half) use e) use a :=
    onEdge_byte (s.pulled x half) use e a huse
  obtain ⟨-, h⟩ | ⟨-, -, h⟩ | ⟨-, -, h⟩ := edgePull_cases s n x
  · simp only [receiveStep, h]
    exact consumed _ _
  · simp only [receiveStep, h]
    exact consumed false _
  · simp only [receiveStep, h]
    exact .inl rfl

theorem emitStep_readByte (s : State) (pos : EmitPos) (n a : Nat) :
    (emitStep s pos n).readByte a = s.readByte a := by
  obtain ⟨p', -, ⟨pos', -, h⟩ | ⟨tx, r1, h⟩⟩ := emitStep_effect s pos n
  · rw [h]
    rfl
  · rw [h]
    rfl

/-- Settles O38: of the engine's steps only the ninth bit of a payload byte stores, under the invariant with `i = 8`. -/
theorem engineStoresOnlyTheDecodedByte : Obligations.EngineStoresOnlyTheDecodedByte := by
  unfold Obligations.EngineStoresOnlyTheDecodedByte
  intro s t a hinv hnext hstep
  obtain ⟨rest, h⟩ := step_of_engineNext hnext
  rw [h] at hstep
  cases hstep
  obtain heq | ⟨pos, n, -, -, heq⟩ | ⟨n, use, x, xs, htask, -, heq⟩ := engineTurn_cases { s with moves := rest }
  · rw [heq]
    exact .inl rfl
  · rw [heq]
    exact .inl (emitStep_readByte { s with moves := rest } pos n a)
  · have htask : s.task = some (.receive n use) := htask
    have huse : edgeUseLegal s use = true := by
      have hlegal := (State.inv_iff.1 hinv).2
      simp only [State.taskLegal, htask, Bool.and_eq_true] at hlegal
      exact hlegal.2
    rw [heq]
    obtain hstands | ⟨f, pos, num, cs, v, rfl, hdecoded⟩ :=
      receiveStep_byte { s with moves := rest, source := xs } n use x a huse
    · exact .inl hstands
    · exact .inr ⟨n, f, pos, num, cs, v, htask, hdecoded⟩

end Sys2Proof.Machine
end

section
/-!
SUPPORT. The command word: the decoder and the encoder agree field by field, which words are illegal, and what the CMD
write of an illegal word does (30_encoding.md R80 to R84, R89).
-/

namespace Sys2Proof

/-! ### The fields of a word -/

/-- A word is its three fields (30_encoding.md R80). -/
theorem append_fields (w : Word) : reservedField w ++ immField w ++ opcField w = w := by
  have hhigh : reservedField w ++ immField w = w.extractLsb' 8 24 :=
    BitVec.extractLsb'_append_extractLsb'_eq_extractLsb' rfl
  rw [hhigh]
  exact (BitVec.extractLsb'_append_extractLsb'_eq_extractLsb' rfl).trans BitVec.extractLsb'_eq_self

/-- The encoding of a command is the word with its opcode and its IMM8. -/
theorem encode_eq_iff {i : Instr} {w : Word} :
    encode i = w ↔ reservedField w = 0#16 ∧ opcField w = opcodeOf i ∧ immField w = immOf i := by
  constructor
  · rintro rfl
    exact Laws.EncodedFields.fields_of_append (immOf i) (opcodeOf i)
  · rintro ⟨hreserved, hopc, himm⟩
    rw [encode, ← hreserved, ← hopc, ← himm, append_fields]

/-! ### The command an opcode names -/

/-- The opcode table read from the command's side (30_encoding.md R82). -/
theorem commandOf_opcodeOf_immOf (i : Instr) : commandOf (opcodeOf i) (immOf i) = some i := by cases i <;> rfl

theorem immOf_of_not_takesImm {i : Instr} (h : takesImm i = false) : immOf i = 0#8 := by
  cases i with
  | emitBit | emitByte | emitBlock | emitRamp | seqCheck => cases h
  | _ => rfl

/-- The opcode table read from the opcode's side, row by row: the command named has that opcode, and the IMM8 is its
operand if it takes one. -/
theorem fields_of_commandOf {opc imm : Byte} {i : Instr} (h : commandOf opc imm = some i) :
    opc = opcodeOf i ∧ (takesImm i = true → imm = immOf i) := by
  unfold commandOf at h
  iterate 13
    obtain ⟨rfl, hi⟩ | ⟨-, h⟩ := ite_eq_iff.1 h
    · cases hi
      exact ⟨rfl, by simp [takesImm, immOf]⟩
  cases h

/-! ### The decoder -/

/-- A word decodes to a command exactly if the command is legal and the word is its encoding. -/
theorem decode_eq_ok_iff {w : Word} {i : Instr} : decode w = .ok i ↔ i.WellFormed ∧ encode i = w := by
  rw [encode_eq_iff]
  constructor
  · intro h
    unfold decode at h
    split_ifs at h with hreserved
    split at h
    · cases h
    next hcommand =>
      obtain ⟨hopc, himm⟩ := fields_of_commandOf hcommand
      split_ifs at h with hzero hwf
      cases h
      refine ⟨hwf, not_not.1 hreserved, hopc, ?_⟩
      cases htakes : takesImm i with
      | true => exact himm htakes
      | false =>
        rw [immOf_of_not_takesImm htakes]
        exact not_not.1 fun hne => hzero ⟨htakes, hne⟩
  · rintro ⟨hwf, hreserved, hopc, himm⟩
    have hzero : ¬(takesImm i = false ∧ immOf i ≠ 0#8) := fun ⟨htakes, hne⟩ => hne (immOf_of_not_takesImm htakes)
    simp only [decode, hreserved, hopc, himm, commandOf_opcodeOf_immOf, ne_eq, not_true_eq_false, if_false, if_neg hzero,
      if_pos hwf]

/-- Settles O1: the command's encoding is the one word that decodes to it. -/
theorem decodeOfEncodeIsTheCommand : Obligations.DecodeOfEncodeIsTheCommand :=
  fun _ hwf => decode_eq_ok_iff.2 ⟨hwf, rfl⟩

/-- Settles O2: the same equivalence read the other way. -/
theorem decodedWordIsItsEncoding : Obligations.DecodedWordIsItsEncoding :=
  fun _ _ h => decode_eq_ok_iff.1 h

/-! ### Illegal words -/

/-- A word decodes to a command or is rejected. -/
theorem decode_eq_error_iff {w : Word} : (∃ e, decode w = .error e) ↔ ¬ ∃ i, decode w = .ok i := by
  cases decode w <;> simp

/-- The opcodes and IMM8 values of the legal commands (30_encoding.md R82, R83). -/
theorem exists_wellFormed_iff {opc imm : Byte} :
    (∃ i : Instr, i.WellFormed ∧ opc = opcodeOf i ∧ imm = immOf i) ↔
      ((opc = 0x00#8 ∨ opc = 0x01#8 ∨ opc = 0x08#8 ∨ opc = 0x09#8 ∨ opc = 0x0A#8 ∨ opc = 0x0B#8 ∨ opc = 0x0C#8
          ∨ opc = 0x10#8) ∧ imm = 0#8)
        ∨ (opc = 0x03#8 ∨ opc = 0x04#8 ∨ opc = 0x11#8)
        ∨ (opc = 0x02#8 ∧ imm.toNat ≤ 2) ∨ (opc = 0x05#8 ∧ imm.toNat ≤ 1) := by
  constructor
  · rintro ⟨i, hwf, rfl, rfl⟩
    cases i with
    | emitBit imm => exact .inr (.inr (.inl ⟨rfl, of_decide_eq_true hwf⟩))
    | emitRamp imm => exact .inr (.inr (.inr ⟨rfl, of_decide_eq_true hwf⟩))
    | emitByte | emitBlock | seqCheck => exact .inr (.inl (by simp [opcodeOf]))
    | _ => exact .inl ⟨by decide, rfl⟩
  · rintro (⟨rfl | rfl | rfl | rfl | rfl | rfl | rfl | rfl, rfl⟩ | (rfl | rfl | rfl) | ⟨rfl, h⟩ | ⟨rfl, h⟩)
    · exact ⟨.nop, rfl, rfl, rfl⟩
    · exact ⟨.cos, rfl, rfl, rfl⟩
    · exact ⟨.nextEdge, rfl, rfl, rfl⟩
    · exact ⟨.acquireSync, rfl, rfl, rfl⟩
    · exact ⟨.decodeBit, rfl, rfl, rfl⟩
    · exact ⟨.decodeByte, rfl, rfl, rfl⟩
    · exact ⟨.decodeBlock, rfl, rfl, rfl⟩
    · exact ⟨.seqInit, rfl, rfl, rfl⟩
    · exact ⟨.emitByte imm, rfl, rfl, rfl⟩
    · exact ⟨.emitBlock imm, rfl, rfl, rfl⟩
    · exact ⟨.seqCheck imm, rfl, rfl, rfl⟩
    · exact ⟨.emitBit imm, decide_eq_true h, rfl, rfl⟩
    · exact ⟨.emitRamp imm, decide_eq_true h, rfl, rfl⟩

/-- A word is legal exactly if its reserved bits are 0 and a legal command has its opcode and its IMM8. -/
theorem exists_decode_eq_ok_iff {w : Word} :
    (∃ i, decode w = .ok i) ↔
      reservedField w = 0#16 ∧ ∃ i : Instr, i.WellFormed ∧ opcField w = opcodeOf i ∧ immField w = immOf i := by
  simp only [decode_eq_ok_iff, encode_eq_iff, ← exists_and_left, and_left_comm]

/-- Settles O3: the listed words are those whose fields no legal command has. -/
theorem wordIsIllegalExactlyWhenListed : Obligations.WordIsIllegalExactlyWhenListed := by
  unfold Obligations.WordIsIllegalExactlyWhenListed
  intro w
  rw [decode_eq_error_iff, exists_decode_eq_ok_iff, exists_wellFormed_iff]
  simp only [reservedField, opcField, immField, BitVec.toNat_eq, BitVec.toNat_ofNat]
  omega

/-- Settles O4: words of the spec, computed. -/
theorem wordsOfTheSpecDecode : Obligations.WordsOfTheSpecDecode :=
  ⟨rfl, rfl, rfl, rfl, rfl, rfl, rfl, rfl⟩

end Sys2Proof

namespace Sys2Proof.Machine

/-! ### The CMD write of an illegal word -/

theorem issueWord_of_error {w : Word} {e : DecodeError} (s : State) (h : decode w = .error e) :
    issueWord w s = issueIllegal s.ack := by
  simp only [issueWord, h]

/-- From a ready state the issue of an illegal word raises ILLEGAL_CMD (60_exceptions.md R222, R225). -/
theorem issueIllegal_ready {s : State} (h : s.Ready) : issueIllegal s = .next (s.usageErr .illegalCmd) :=
  s.issue_ready _ h.1 h.2

/-- The error of a ready state's usage is exact: no command was running. -/
theorem State.usageErr_of_ready {s : State} (c : ErrCode) (h : s.Ready) :
    s.usageErr c = { s with
      result0 := 0#32, result1 := 0#32, timeout := false, err := c, errPos := Word.allOnes, done := true } := by
  rw [s.usageErr_of_none c h.2, ← s.busy_eq_false.1 h.1]

/-- Settles O6: the write is acknowledged, and the word is issued in a ready state. -/
theorem illegalWordRaisesIllegalCmd : Obligations.IllegalWordRaisesIllegalCmd := by
  unfold Obligations.IllegalWordRaisesIllegalCmd
  intro s w e rest hm hw hready
  have hready' : (State.ack { s with moves := rest }).Ready := hready
  rw [step_move s _ rest hm, perform, hostStep_cmd, issueWord_of_error _ hw, issueIllegal_ready hready',
    State.usageErr_of_ready _ hready']
  rfl

end Sys2Proof.Machine
end

section
/-!
SUPPORT. The fixed-point cosine, the tone sample and COS (40_synthesis.md R110 to R117).
-/

namespace Sys2Proof.Machine

/-! ### The cosine -/

theorem cosAngle_zero (fs : Nat) : cosAngle fs 0 = 0 := by
  rw [cosAngle, Nat.zero_mul, Nat.zero_div]

/-- At a quarter of a turn the angle does not depend on the sample rate (40_synthesis.md R112). -/
theorem cosAngle_sampleRate {fs : Nat} (h : 1 ≤ fs) : cosAngle fs fs = Config.piQ / 2 := by
  rw [cosAngle, Nat.mul_comm 2 fs, Nat.mul_div_mul_left _ _ h]

theorem cosClamp_le (c : Int) : cosClamp c ≤ 2 ^ Config.cosFrac :=
  Int.toNat_le.2 (min_le_left _ _)

theorem cosq_zero (fs a : Nat) : cosq fs 0 a = a := by
  have hclamp : cosClamp (cosPoly ((0 * 0 / 2 ^ Config.cosFrac : Nat) : Int)) = 2 ^ Config.cosFrac := by decide
  rw [cosq, cosAngle_zero, hclamp, Nat.mul_div_cancel _ (Nat.two_pow_pos _)]

/-- What the polynomial leaves at a quarter of a turn, 26562 in Q30, is less than one step of any legal amplitude
(40_synthesis.md R112). -/
theorem cosq_sampleRate {fs a : Nat} (hfs : 1 ≤ fs) (ha : a ≤ 32767) : cosq fs fs a = 0 := by
  have hclamp : cosClamp (cosPoly ((Config.piQ / 2 * (Config.piQ / 2) / 2 ^ Config.cosFrac : Nat) : Int)) = 26562 := by
    decide
  have hsmall : a * 26562 < 2 ^ Config.cosFrac := by
    rw [Config.cosFrac]
    omega
  rw [cosq, cosAngle_sampleRate hfs, hclamp, Nat.div_eq_of_lt hsmall]

theorem cosq_le (fs y a : Nat) : cosq fs y a ≤ a :=
  Nat.div_le_of_le_mul ((Nat.mul_comm a _).trans_le (Nat.mul_le_mul_right a (cosClamp_le _)))

/-- Settles O12. -/
theorem cosineEndsAndBound : Obligations.CosineEndsAndBound := by
  unfold Obligations.CosineEndsAndBound
  exact fun fs y a => ⟨cosq_zero fs a, cosq_sampleRate, cosq_le fs y a⟩

/-! ### The tone sample -/

theorem toneSample_first_half {fs p : Nat} (h : p < 2 * fs) (a : Nat) : toneSample fs p a = cosq fs (absDiff p fs) a :=
  if_pos h

theorem toneSample_second_half {fs p : Nat} (h : 2 * fs ≤ p) (a : Nat) :
    toneSample fs p a = -(cosq fs (absDiff p (3 * fs)) a : Int) :=
  if_neg (Nat.not_lt.2 h)

/-- The sample of the first half of a cycle lies in `[0, a]` (40_synthesis.md R113). -/
theorem toneSample_first_half_bounds {fs p : Nat} (h : p < 2 * fs) (a : Nat) :
    0 ≤ toneSample fs p a ∧ toneSample fs p a ≤ a := by
  have hle := cosq_le fs (absDiff p fs) a
  rw [toneSample_first_half h]
  omega

/-- The sample of the second half of a cycle lies in `[-a, 0]` (40_synthesis.md R113). -/
theorem toneSample_second_half_bounds {fs p : Nat} (h : 2 * fs ≤ p) (a : Nat) :
    -(a : Int) ≤ toneSample fs p a ∧ toneSample fs p a ≤ 0 := by
  have hle := cosq_le fs (absDiff p (3 * fs)) a
  rw [toneSample_second_half h]
  omega

/-- The rising zero crossing is a quarter of a turn before the positive peak. -/
theorem toneSample_zero {fs a : Nat} (hfs : 1 ≤ fs) (ha : a ≤ 32767) : toneSample fs 0 a = 0 := by
  have hquarter : absDiff 0 fs = fs := by
    rw [absDiff]
    omega
  rw [toneSample_first_half (by omega), hquarter, cosq_sampleRate hfs ha, Nat.cast_zero]

/-- The falling zero crossing is a quarter of a turn before the negative peak. -/
theorem toneSample_two_sampleRate {fs a : Nat} (hfs : 1 ≤ fs) (ha : a ≤ 32767) : toneSample fs (2 * fs) a = 0 := by
  have hquarter : absDiff (2 * fs) (3 * fs) = fs := by
    rw [absDiff]
    omega
  rw [toneSample_second_half le_rfl, hquarter, cosq_sampleRate hfs ha, Nat.cast_zero, neg_zero]

/-- Settles O13: the bounds half by half, and the cosine's zero at both crossings. -/
theorem toneSampleIsSineShaped : Obligations.ToneSampleIsSineShaped := by
  unfold Obligations.ToneSampleIsSineShaped
  intro fs p a hfs ha
  have hbound : -(a : Int) ≤ toneSample fs p a ∧ toneSample fs p a ≤ a := by
    obtain h | h := Nat.lt_or_ge p (2 * fs)
    · have := toneSample_first_half_bounds h a
      omega
    · have := toneSample_second_half_bounds h a
      omega
  exact ⟨hbound.1, hbound.2, fun h => (toneSample_first_half_bounds h a).1,
    fun h => (toneSample_second_half_bounds h a).2, toneSample_zero hfs ha, toneSample_two_sampleRate hfs ha⟩

/-! ### COS -/

/-- A command that completes in its CMD write ends no running one. -/
theorem State.finish_of_ready {s : State} (r0 r1 : Nat) (timeout : Bool) (h : s.Ready) :
    s.finish r0 r1 timeout = { s with
      result0 := resultWord r0, result1 := resultWord r1, timeout := timeout, done := true } := by
  rw [State.finish, ← s.busy_eq_false.1 h.1]

theorem cosq_lt_two_pow {a : Nat} (ha : a ≤ 32767) (fs y : Nat) : cosq fs y a < 2 ^ 32 := by
  have := cosq_le fs y a
  omega

/-- Settles O11: in range the cosine, at most ARG1, fits in RESULT0. -/
theorem cosGivesTheCosineOrRange : Obligations.CosGivesTheCosineOrRange := by
  unfold Obligations.CosGivesTheCosineOrRange
  refine ⟨rfl, fun s hready => ?_⟩
  rw [exec_ready .cos s hready.1 hready.2, commandBody, runCos, Config.maxAmplitude]
  split
  · rw [State.usageErr_of_ready _ hready, Word.allOnes]
  next hrange =>
    have hamp : s.arg1.toNat ≤ 32767 := by omega
    rw [State.finish_of_ready _ _ _ hready, resultWord_of_lt (cosq_lt_two_pow hamp _ _), resultWord_zero]

end Sys2Proof.Machine
end

section
/-!
SUPPORT. What a host access can change while a command runs (20_memory.md R59, 45_framer_control.md R201, 10_state.md
R30, 40_synthesis.md R116).
-/

namespace Sys2Proof.Machine

/-- `t` is `s` but for what a host access may write while a command runs: DONE, OVERRUN, ERR, ERR_POS and the ARG
registers, and the environment's part of an access (the moves, the answer and the counter of draws). -/
def ChangesHostRegistersOnly (s t : State) : Prop :=
  t = { s with
    done := t.done, overrun := t.overrun, err := t.err, errPos := t.errPos, arg0 := t.arg0, arg1 := t.arg1
    moves := t.moves, response := t.response, draws := t.draws }

/-- While a command runs the tone parameters are locked (45_framer_control.md R201). -/
theorem State.toneLocked_of_busy {s : State} (h : s.busy = true) : s.toneLocked = true := by
  rw [State.toneLocked, h, Bool.true_or]

theorem cfgWrite_locked (s : State) {locked : Bool} (h : locked = true) (legal : Bool) (accepted : State) :
    cfgWrite s locked legal accepted = s.refuseCfg .cfgLocked :=
  if_pos h

theorem cfgWrite_changesHostRegistersOnly (s : State) {locked : Bool} (h : locked = true) (legal : Bool)
    (accepted : State) : ChangesHostRegistersOnly s (cfgWrite s locked legal accepted) := by
  rw [cfgWrite_locked s h]
  rfl

theorem writeCtrl_changesHostRegistersOnly (s : State) {v : Word} (hv : v.getLsbD 0 = false) :
    ChangesHostRegistersOnly s (writeCtrl s v) := by
  rw [writeCtrl, hv, if_neg (by decide)]
  split
  · rfl
  · rfl

/-- A register write while a command runs: the configuration is locked, and CTRL clears ERR unless it resets. -/
theorem writeReg_changesHostRegistersOnly {s : State} (hbusy : s.busy = true) {v : Word} {r : Reg}
    (hctrl : r = .ctrl → v.getLsbD 0 = false) : ChangesHostRegistersOnly s (writeReg s v r) := by
  cases r with
  | ctrl => exact writeCtrl_changesHostRegistersOnly s (hctrl rfl)
  | cfgSampleRate | cfgBaseFreq | cfgAmplitude | cfgLeadin =>
    exact cfgWrite_changesHostRegistersOnly s (State.toneLocked_of_busy hbusy) _ _
  | cfgSeq => exact cfgWrite_changesHostRegistersOnly s hbusy _ _
  | _ => rfl

/-- An access on the port while a command runs: the buffer is closed to it (20_memory.md R59). -/
theorem hostPort_changesHostRegistersOnly {s : State} (hbusy : s.busy = true) {a : Access}
    (hctrl : ∀ v, a = .write 0x004#12 .word v → v.getLsbD 0 = false) :
    ChangesHostRegistersOnly s (hostPort s a) := by
  obtain ⟨resp, d, h⟩ | ⟨addr, v, r, rfl, haddr, h⟩ | ⟨addr, size, v, hopen, -⟩ := hostPort_cases s a
  · rw [h]
    rfl
  · have hwrite : ChangesHostRegistersOnly s (writeReg s v r) := by
      refine writeReg_changesHostRegistersOnly hbusy fun hr => ?_
      subst hr
      obtain rfl : addr = 0x004#12 := BitVec.eq_of_toNat_eq haddr
      exact hctrl v rfl
    rw [h]
    exact congrArg State.ack hwrite
  · obtain ⟨-, -, hidle⟩ := State.bufferOpen_iff.1 hopen
    exact absurd (hbusy.symm.trans hidle) (by decide)

/-- A CMD write while a command runs is dropped, and any other access is the port's. -/
theorem step_host_changesHostRegistersOnly {s : State} {a : Access} {rest : List Move}
    (hm : s.moves = .host a :: rest) (hbusy : s.busy = true)
    (hctrl : ∀ v, a = .write 0x004#12 .word v → v.getLsbD 0 = false) :
    ∃ t, step s = .next t ∧ ChangesHostRegistersOnly s t := by
  cases hcmd : a.cmdWord? with
  | some w =>
    rw [Access.cmdWord?_eq_some hcmd] at hm
    exact ⟨_, cmdWriteWhileBusyIsDropped s w rest hm hbusy, rfl⟩
  | none =>
    have hport := hostPort_changesHostRegistersOnly (s := { s with moves := rest }) hbusy hctrl
    exact ⟨_, step_hostPort hm hcmd, hport⟩

/-- Settles O50: none of these is a register the access may write. -/
theorem hostAccessesDoNotDisturbACommand : Obligations.HostAccessesDoNotDisturbACommand := by
  unfold Obligations.HostAccessesDoNotDisturbACommand
  intro s a rest hm hbusy hctrl
  obtain ⟨t, hstep, hframe⟩ := step_host_changesHostRegistersOnly hm hbusy hctrl
  refine ⟨t, hstep, ?_⟩
  rw [hframe]
  simp only [and_self]

end Sys2Proof.Machine
end

section
/-!
SUPPORT. The Modulator's commands from their CMD write to their end (41_modulator.md R126 to R133): a cycle sample by
sample (40_synthesis.md R115), a command as the chain of its cycles, and the four EMIT commands.
-/

namespace Sys2Proof.Machine

/-! ### The CMD write -/

theorem State.preambleLength_first {s : State} (h : s.firstPending = true) :
    s.preambleLength = s.cfgLeadin.toNat :=
  if_pos h

theorem State.preambleLength_later {s : State} (h : s.firstPending = false) :
    s.preambleLength = Config.preambleCycles :=
  if_neg (Bool.eq_false_iff.1 h)

theorem blockStart_preamble (num : Byte) {cnt : Nat} (h : cnt ≠ 0) : blockStart num cnt = .preamble num cnt :=
  if_neg h

/-- Settles O17: the preamble is FIRST_PENDING's, and the block starts with it if it has a cycle. -/
theorem emitBlockTakesTheFirstBlockFlag : Obligations.EmitBlockTakesTheFirstBlockFlag := by
  unfold Obligations.EmitBlockTakesTheFirstBlockFlag
  intro s num hready
  rw [exec_ready (.emitBlock num) s hready.1 hready.2, commandBody, runEmitBlock]
  refine ⟨fun hlater => ?_, fun hfirst hleadin => ?_, fun hfirst hleadin => ?_⟩
  · rw [State.preambleLength_later hlater, ← hlater]
    rfl
  · have hcnt : s.cfgLeadin.toNat ≠ 0 := fun h => hleadin (BitVec.eq_of_toNat_eq h)
    rw [State.preambleLength_first hfirst, blockStart_preamble num hcnt]
    rfl
  · rw [State.preambleLength_first hfirst, hleadin]
    rfl

theorem runEmitRamp_up (s : State) :
    runEmitRamp 0#8 s = if s.txActive then s.usageErr .txState
      else { s with phase := 0#32, txActive := true, firstPending := true }.start (.emit (.ramp .up 0) 0) := rfl

theorem runEmitRamp_down (s : State) :
    runEmitRamp 1#8 s = if s.txActive then s.start (.emit (.ramp .down 0) 0) else s.usageErr .txState := rfl

/-- Settles O18, by the two directions and the two values of TX_ACTIVE. -/
theorem emitRampBracketsATransmission : Obligations.EmitRampBracketsATransmission := by
  unfold Obligations.EmitRampBracketsATransmission
  intro s hready
  rw [exec_ready (.emitRamp 0#8) s hready.1 hready.2, exec_ready (.emitRamp 1#8) s hready.1 hready.2, commandBody,
    commandBody, runEmitRamp_up, runEmitRamp_down, State.usageErr_of_ready _ hready]
  refine ⟨fun h => ?_, fun h => ?_, fun h => ?_, fun h => ?_⟩
  · rw [if_neg (Bool.eq_false_iff.1 h)]
    rfl
  · rw [if_pos h]
    rfl
  · rw [if_pos h]
    rfl
  · rw [if_neg (Bool.eq_false_iff.1 h)]
    rfl

/-- From a ready state a run is the body of its command, the write being acknowledged, and then the engine's steps. -/
theorem State.runCommand_ready {s : State} {i : Instr} (k : Nat) (hwf : i.WellFormed) (hready : s.Ready)
    (hm : s.moves = []) : s.runCommand i k = Sys2Proof.core.run k (commandBody i s.ack) := by
  have hmoves : (s.withFetchWord 32 (encode i).toNat).moves = [.host (.write cmdOffset .word (encode i))] := by
    rw [State.withFetchWord, Nat.mod_eq_of_lt (encode i).isLt, BitVec.ofNat_toNat, BitVec.setWidth_eq, hm]
  have hstep : step (s.withFetchWord 32 (encode i).toNat) = .next (commandBody i s.ack) := by
    rw [step_move _ _ _ hmoves, perform, hostStep_cmd, issueWord, decode_eq_ok_iff.2 ⟨hwf, rfl⟩]
    simp only [State.withFetchWord, ← hm]
    exact exec_ready i s.ack hready.1 hready.2
  exact core_run_succ k hstep

/-! ### The arithmetic of a cycle -/

section Cycle

variable {fs inc p : Nat}

theorem cycleLength_last (hp : p < 4 * fs) (hlast : 4 * fs ≤ p + inc) : cycleLength fs inc p = 1 :=
  Nat.div_eq_of_lt_le (by omega) (by omega)

theorem cycleLength_more (hinc : 1 ≤ inc) (hmore : p + inc < 4 * fs) :
    cycleLength fs inc p = cycleLength fs inc (p + inc) + 1 := by
  rw [cycleLength, cycleLength, ← Nat.add_div_right _ hinc]
  congr 1
  omega

theorem cycleEnd_last (hp : p < 4 * fs) (hlast : 4 * fs ≤ p + inc) : cycleEnd fs inc p = p + inc - 4 * fs := by
  rw [cycleEnd, cycleLength_last hp hlast, Nat.one_mul]

theorem cycleEnd_more (hinc : 1 ≤ inc) (hmore : p + inc < 4 * fs) :
    cycleEnd fs inc p = cycleEnd fs inc (p + inc) := by
  rw [cycleEnd, cycleEnd, cycleLength_more hinc hmore, Nat.succ_mul]
  omega

theorem cycleSamples_last (amp : Nat → Nat) (hp : p < 4 * fs) (hlast : 4 * fs ≤ p + inc) :
    cycleSamples fs inc amp p = [toneSample fs p (amp p)] := by
  simp [cycleSamples, cycleLength_last hp hlast]

theorem cycleSamples_more (amp : Nat → Nat) (hinc : 1 ≤ inc) (hmore : p + inc < 4 * fs) :
    cycleSamples fs inc amp p = toneSample fs p (amp p) :: cycleSamples fs inc amp (p + inc) := by
  have hphase (j : Nat) : p + (j + 1) * inc = p + inc + j * inc := by
    rw [Nat.succ_mul]
    omega
  simp [cycleSamples, cycleLength_more hinc hmore, List.range_succ_eq_map, hphase]

/-- Induction along a cycle: the last sample wraps the phase, and every sample before it advances it (40_synthesis.md
R115). -/
theorem cycle_induction {motive : (p : Nat) → p < 4 * fs → Prop} (hinc : 1 ≤ inc)
    (last : ∀ p hp, 4 * fs ≤ p + inc → motive p hp)
    (more : ∀ p hp (hmore : p + inc < 4 * fs), motive (p + inc) hmore → motive p hp) (p : Nat) (hp : p < 4 * fs) :
    motive p hp := by
  by_cases h : 4 * fs ≤ p + inc
  · exact last p hp h
  · exact more p hp (Nat.lt_of_not_le h) (cycle_induction hinc last more (p + inc) (Nat.lt_of_not_le h))
termination_by 4 * fs - p

theorem cycleLength_le (hinc : 1 ≤ inc) (hp : p < 4 * fs) : cycleLength fs inc p ≤ 4 * fs - p := by
  induction p, hp using cycle_induction hinc with
  | last p hp hlast =>
    rw [cycleLength_last hp hlast]
    omega
  | more p hp hmore ih =>
    rw [cycleLength_more hinc hmore]
    omega

/-- The residue of a cycle is a legal phase (10_state.md R41). -/
theorem cycleEnd_lt (hinc : 1 ≤ inc) (hle : inc ≤ 4 * fs) (hp : p < 4 * fs) : cycleEnd fs inc p < 4 * fs := by
  induction p, hp using cycle_induction hinc with
  | last p hp hlast =>
    rw [cycleEnd_last hp hlast]
    omega
  | more p hp hmore ih => rwa [cycleEnd_more hinc hmore]

theorem cycleSamples_length_le (amp : Nat → Nat) (hinc : 1 ≤ inc) (hp : p < 4 * fs) :
    (cycleSamples fs inc amp p).length ≤ 4 * fs := by
  have hlen := cycleLength_le hinc hp
  simp only [cycleSamples, List.length_map, List.length_range]
  omega

end Cycle

/-- Under a legal configuration every tone advances the phase, by less than a cycle (41_modulator.md R125). -/
theorem toneIncrement_range {s : State} (hcfg : s.cfgLegal = true) (v : BitValue) :
    1 ≤ toneIncrement s.cfgBaseFreq.toNat v
      ∧ toneIncrement s.cfgBaseFreq.toNat v ≤ 4 * s.cfgSampleRate.toNat := by
  obtain ⟨hf0, hf, -⟩ := State.cfgLegal_iff.1 hcfg
  cases v <;> simp only [toneIncrement] <;> omega

/-- Every phase of a cycle fits in PHASE. -/
theorem State.phase_lt_two_pow {s : State} (hcfg : s.cfgLegal = true) {p : Nat} (hp : p < 4 * s.cfgSampleRate.toNat) :
    p < 2 ^ 32 := by
  obtain ⟨-, -, hfs, -⟩ := State.cfgLegal_iff.1 hcfg
  simp only [Config.maxSampleRate] at hfs
  omega

theorem toneSamples_length_le {s : State} (hcfg : s.cfgLegal = true) (a : Nat) (vs : List BitValue) {p : Nat}
    (hp : p < 4 * s.cfgSampleRate.toNat) :
    (toneSamples s.cfgSampleRate.toNat s.cfgBaseFreq.toNat a p vs).length
      ≤ vs.length * (4 * s.cfgSampleRate.toNat) := by
  induction vs generalizing p with
  | nil => exact Nat.zero_le _
  | cons v vs ih =>
    obtain ⟨hinc, hle⟩ := toneIncrement_range hcfg v
    rw [toneSamples, List.length_append, List.length_cons, Nat.succ_mul, Nat.add_comm]
    exact Nat.add_le_add (ih (cycleEnd_lt hinc hle hp)) (cycleSamples_length_le _ hinc hp)

/-! ### The engine's steps of a cycle -/

/-- The sample that the cycle `pos` pushes at phase `p` under the configuration of `s` (40_synthesis.md R115). -/
def State.emitSample (s : State) (pos : EmitPos) (p : Nat) : Int :=
  toneSample s.cfgSampleRate.toNat p (emitAmp s.cfgSampleRate.toNat s.cfgAmplitude.toNat p pos)

/-- The samples of the cycle `pos` from phase `p` on. -/
def State.cycleTones (s : State) (pos : EmitPos) (p : Nat) : List Int :=
  cycleSamples s.cfgSampleRate.toNat (toneIncrement s.cfgBaseFreq.toNat (emitSymbol pos))
    (fun q => emitAmp s.cfgSampleRate.toNat s.cfgAmplitude.toNat q pos) p

/-- The phase that the cycle `pos` leaves. -/
def State.cycleResidue (s : State) (pos : EmitPos) (p : Nat) : Nat :=
  cycleEnd s.cfgSampleRate.toNat (toneIncrement s.cfgBaseFreq.toNat (emitSymbol pos)) p

/-- `s` after `xs` has been pushed and PHASE has moved to `p`. -/
def State.sent (s : State) (xs : List Int) (p : Nat) : State :=
  { s with
    pushed := s.pushed ++ xs.map (BitVec.ofInt 16), sinkRoom := s.sinkRoom - xs.length, phase := BitVec.ofNat 32 p }

/-- An EMIT command begun in `s`, about to Push in the cycle `pos` with the samples `xs` behind it. -/
def State.emitting (s : State) (pos : EmitPos) (xs : List Int) (p : Nat) : State :=
  (s.sent xs p).start (.emit pos xs.length)

theorem State.start_eq_emitting (s : State) (pos : EmitPos) :
    s.start (.emit pos 0) = s.emitting pos [] s.phase.toNat := by
  simp [State.emitting, State.sent]

theorem State.emitting_phase (s : State) (pos : EmitPos) (xs : List Int) {p : Nat} (hp : p < 2 ^ 32) :
    (s.emitting pos xs p).phase.toNat = p :=
  Nat.mod_eq_of_lt hp

theorem emitPushed_emitting (s : State) (pos : EmitPos) (xs : List Int) {p : Nat} (p' : Nat) (hp : p < 2 ^ 32) :
    emitPushed (s.emitting pos xs p) pos p'
      = (s.sent (xs ++ [s.emitSample pos p]) p').start (.emit pos xs.length) := by
  rw [emitPushed, s.emitting_phase pos xs hp]
  simp [State.emitting, State.sent, State.start, State.push, State.emitSample, Nat.sub_sub]

/-- What follows a cycle does not depend on the task that stood. -/
theorem endCycle_start (s : State) (k : Task) (pos : EmitPos) (n : Nat) :
    endCycle (s.start k) pos n = endCycle s pos n := by
  have hnext : nextCycle (s.start k) pos = nextCycle s pos := rfl
  rw [endCycle, endCycle, hnext]
  split
  · rfl
  · cases pos with
    | ramp dir j => cases dir <;> rfl
    | _ => rfl

section Emitting

variable {s : State} {pos : EmitPos} {xs : List Int} {p : Nat}

theorem endCycle_next {pos' : EmitPos} (h : nextCycle s pos = some pos') :
    endCycle (s.sent xs p) pos xs.length = s.emitting pos' xs p := by
  have h' : nextCycle (s.sent xs p) pos = some pos' := h
  rw [endCycle, h', State.emitting]

theorem endCycle_last (n : Nat) (h : nextCycle s pos = none) :
    endCycle (s.sent xs p) pos n = finishEmit (s.sent xs p) n pos := by
  have h' : nextCycle (s.sent xs p) pos = none := h
  rw [endCycle, h']

theorem step_emitting (hm : s.moves = []) (hroom : xs.length < s.sinkRoom) :
    step (s.emitting pos xs p) = .next (emitStep (s.emitting pos xs p) pos xs.length) := by
  have hsink : (s.emitting pos xs p).sinkRoom ≠ 0 := Nat.sub_ne_zero_of_lt hroom
  rw [step_engine_default (s.emitting pos xs p) hm, engineTurn_emit _ pos xs.length rfl hsink]

/-- A step that does not wrap the phase goes on in its cycle. -/
theorem step_emitting_more (hcfg : s.cfgLegal = true) (hm : s.moves = []) (hroom : xs.length < s.sinkRoom)
    (hp : p < 4 * s.cfgSampleRate.toNat)
    (hmore : p + toneIncrement s.cfgBaseFreq.toNat (emitSymbol pos) < 4 * s.cfgSampleRate.toNat) :
    step (s.emitting pos xs p) = .next (s.emitting pos (xs ++ [s.emitSample pos p])
      (p + toneIncrement s.cfgBaseFreq.toNat (emitSymbol pos))) := by
  have hword := State.phase_lt_two_pow hcfg hp
  have h := emitStep_cases (s.emitting pos xs p) pos xs.length
  rw [s.emitting_phase pos xs hword] at h
  obtain ⟨-, h⟩ | ⟨hlast, -⟩ := h
  · have hlen : (xs ++ [s.emitSample pos p]).length = xs.length + 1 := List.length_append
    rw [step_emitting hm hroom, h, emitPushed_emitting s pos xs _ hword, ← hlen]
    rfl
  · exact absurd hmore (Nat.not_lt.2 hlast)

/-- The step that wraps the phase ends its cycle. -/
theorem step_emitting_last (hcfg : s.cfgLegal = true) (hm : s.moves = []) (hroom : xs.length < s.sinkRoom)
    (hp : p < 4 * s.cfgSampleRate.toNat)
    (hlast : 4 * s.cfgSampleRate.toNat ≤ p + toneIncrement s.cfgBaseFreq.toNat (emitSymbol pos)) :
    step (s.emitting pos xs p) = .next (endCycle
      (s.sent (xs ++ [s.emitSample pos p])
        (p + toneIncrement s.cfgBaseFreq.toNat (emitSymbol pos) - 4 * s.cfgSampleRate.toNat))
      pos (xs ++ [s.emitSample pos p]).length) := by
  have hword := State.phase_lt_two_pow hcfg hp
  have h := emitStep_cases (s.emitting pos xs p) pos xs.length
  rw [s.emitting_phase pos xs hword] at h
  obtain ⟨hmore, -⟩ | ⟨-, h⟩ := h
  · exact absurd hmore (Nat.not_lt.2 hlast)
  · rw [step_emitting hm hroom, h, emitPushed_emitting s pos xs _ hword, endCycle_start, List.length_append]
    rfl

/-- The engine's steps of one cycle push its samples and leave its residue (40_synthesis.md R115). -/
theorem run_cycle (hcfg : s.cfgLegal = true) (hm : s.moves = []) (k : Nat) (hp : p < 4 * s.cfgSampleRate.toNat)
    (hroom : xs.length + (s.cycleTones pos p).length ≤ s.sinkRoom) :
    Sys2Proof.core.run ((s.cycleTones pos p).length + k) (s.emitting pos xs p)
      = Sys2Proof.core.run k (endCycle (s.sent (xs ++ s.cycleTones pos p) (s.cycleResidue pos p)) pos
          (xs ++ s.cycleTones pos p).length) := by
  have hinc := (toneIncrement_range hcfg (emitSymbol pos)).1
  induction p, hp using cycle_induction hinc generalizing xs with
  | last p hp hlast =>
    have htones : s.cycleTones pos p = [s.emitSample pos p] := cycleSamples_last _ hp hlast
    rw [htones, List.length_singleton] at hroom ⊢
    rw [State.cycleResidue, cycleEnd_last hp hlast, Nat.add_comm 1 k]
    exact core_run_succ k (step_emitting_last hcfg hm hroom hp hlast)
  | more p hp hmore ih =>
    have htones : s.cycleTones pos p = s.emitSample pos p :: s.cycleTones pos _ := cycleSamples_more _ hinc hmore
    have hresidue : s.cycleResidue pos p = s.cycleResidue pos _ := cycleEnd_more hinc hmore
    rw [htones, List.length_cons] at hroom ⊢
    rw [hresidue, Nat.add_right_comm, core_run_succ _ (step_emitting_more hcfg hm (by omega) hp hmore),
      ih (by rw [List.length_append, List.length_singleton]; omega), List.append_assoc, List.singleton_append]

theorem State.cycleResidue_lt (hcfg : s.cfgLegal = true) (pos : EmitPos) (hp : p < 4 * s.cfgSampleRate.toNat) :
    s.cycleResidue pos p < 4 * s.cfgSampleRate.toNat := by
  obtain ⟨hinc, hle⟩ := toneIncrement_range hcfg (emitSymbol pos)
  exact cycleEnd_lt hinc hle hp

theorem run_cycle_next (hcfg : s.cfgLegal = true) (hm : s.moves = []) (k : Nat) (hp : p < 4 * s.cfgSampleRate.toNat)
    (hroom : xs.length + (s.cycleTones pos p).length ≤ s.sinkRoom) {pos' : EmitPos}
    (hnext : nextCycle s pos = some pos') :
    Sys2Proof.core.run ((s.cycleTones pos p).length + k) (s.emitting pos xs p)
      = Sys2Proof.core.run k (s.emitting pos' (xs ++ s.cycleTones pos p) (s.cycleResidue pos p)) := by
  rw [run_cycle hcfg hm k hp hroom, endCycle_next hnext]

theorem run_cycle_last (hcfg : s.cfgLegal = true) (hm : s.moves = []) (hp : p < 4 * s.cfgSampleRate.toNat)
    (hroom : xs.length + (s.cycleTones pos p).length ≤ s.sinkRoom) (hnext : nextCycle s pos = none) :
    Sys2Proof.core.run (s.cycleTones pos p).length (s.emitting pos xs p)
      = .next (finishEmit (s.sent (xs ++ s.cycleTones pos p) (s.cycleResidue pos p))
          (xs ++ s.cycleTones pos p).length pos) := by
  refine (run_cycle hcfg hm 0 hp hroom).trans ?_
  rw [endCycle_last _ hnext]
  rfl

end Emitting

/-! ### A command as a chain of cycles -/

/-- From the cycle `pos` on, an EMIT command in `s` has the cycles of the symbols `vs`, all at constant amplitude, and
ends with the cycle `last`. -/
inductive EmitsFrom (s : State) (last : EmitPos) : EmitPos → List BitValue → Prop
  | last (hamp : ∀ fs a p, emitAmp fs a p last = a) (hnext : nextCycle s last = none) :
      EmitsFrom s last last [emitSymbol last]
  | next {pos pos' : EmitPos} {vs : List BitValue} (hamp : ∀ fs a p, emitAmp fs a p pos = a)
      (hnext : nextCycle s pos = some pos') (h : EmitsFrom s last pos' vs) :
      EmitsFrom s last pos (emitSymbol pos :: vs)

theorem State.cycleTones_of_constant (s : State) {pos : EmitPos} (hamp : ∀ fs a p, emitAmp fs a p pos = a) (p : Nat) :
    s.cycleTones pos p = cycleSamples s.cfgSampleRate.toNat (toneIncrement s.cfgBaseFreq.toNat (emitSymbol pos))
      (fun _ => s.cfgAmplitude.toNat) p := by
  simp only [State.cycleTones, hamp]

/-- The engine's steps of a chain of cycles push the tones of its symbols, phase-continuous, and the command completes
(30_encoding.md R92). -/
theorem run_emitsFrom {s : State} {pos last : EmitPos} {vs : List BitValue} (hcfg : s.cfgLegal = true)
    (hm : s.moves = []) (h : EmitsFrom s last pos vs) {xs : List Int} {p : Nat}
    (hp : p < 4 * s.cfgSampleRate.toNat) :
    let ys := toneSamples s.cfgSampleRate.toNat s.cfgBaseFreq.toNat s.cfgAmplitude.toNat p vs
    xs.length + ys.length ≤ s.sinkRoom →
      Sys2Proof.core.run ys.length (s.emitting pos xs p)
        = .next (finishEmit (s.sent (xs ++ ys) (toneEnd s.cfgSampleRate.toNat s.cfgBaseFreq.toNat p vs))
            (xs ++ ys).length last) := by
  induction h generalizing xs p with
  | last hamp hnext =>
    simp only [toneSamples, toneEnd, List.append_nil, ← s.cycleTones_of_constant hamp]
    intro hroom
    exact run_cycle_last hcfg hm hp hroom hnext
  | @next pos pos' vs hamp hnext _ ih =>
    simp only [toneSamples, toneEnd, ← s.cycleTones_of_constant hamp, ← List.append_assoc]
    rw [List.length_append]
    intro hroom
    rw [run_cycle_next hcfg hm _ hp (by omega) hnext]
    exact ih (s.cycleResidue_lt hcfg pos hp) (by rw [List.length_append]; omega)

/-- A command whose CMD write starts the first of its cycles in `t` pushes their tones and completes. -/
theorem runCommand_emitsFrom {s t : State} {i : Instr} {pos last : EmitPos} {vs : List BitValue} (hwf : i.WellFormed)
    (hready : s.Ready) (hm : s.moves = []) (hbody : commandBody i s.ack = t.start (.emit pos 0))
    (hcfg : t.cfgLegal = true) (hphase : t.phaseLegal = true) (hmt : t.moves = []) (h : EmitsFrom t last pos vs)
    (hroom : (t.tones vs).length ≤ t.sinkRoom) :
    s.runCommand i (t.tones vs).length
      = .next (finishEmit
          (t.sent (t.tones vs) (toneEnd t.cfgSampleRate.toNat t.cfgBaseFreq.toNat t.phase.toNat vs))
          (t.tones vs).length last) := by
  rw [State.runCommand_ready _ hwf hready hm, hbody, State.start_eq_emitting]
  exact run_emitsFrom (xs := []) hcfg hmt h (of_decide_eq_true hphase) ((Nat.zero_add _).trans_le hroom)

/-! ### EMIT_BIT -/

theorem wellFormed_of_bitValueOfCode {imm : Byte} {v : BitValue} (h : bitValueOfCode? imm = some v) :
    (Instr.emitBit imm).WellFormed := by
  simp only [bitValueOfCode?] at h
  split_ifs at h with h0 h1 h2
  · subst h0; rfl
  · subst h1; rfl
  · subst h2; rfl

theorem State.tones_singleton (s : State) (v : BitValue) :
    s.tones [v] = cycleSamples s.cfgSampleRate.toNat (toneIncrement s.cfgBaseFreq.toNat v)
      (fun _ => s.cfgAmplitude.toNat) s.phase.toNat :=
  List.append_nil _

/-- A few symbols have fewer than 2^32 samples (30_encoding.md R91). -/
theorem State.tones_length_lt {s : State} (hcfg : s.cfgLegal = true) (hphase : s.phaseLegal = true)
    {vs : List BitValue} (hvs : vs.length ≤ 9) : (s.tones vs).length < 2 ^ 32 := by
  obtain ⟨-, -, hfs, -⟩ := State.cfgLegal_iff.1 hcfg
  have hlen : (s.tones vs).length ≤ vs.length * (4 * s.cfgSampleRate.toNat) :=
    toneSamples_length_le hcfg _ vs (of_decide_eq_true hphase)
  calc (s.tones vs).length ≤ vs.length * (4 * s.cfgSampleRate.toNat) := hlen
    _ ≤ 9 * (4 * Config.maxSampleRate) := Nat.mul_le_mul hvs (Nat.mul_le_mul_left 4 hfs)
    _ < 2 ^ 32 := by decide

/-- Settles O20: the chain of one cycle. -/
theorem emitBitSendsOneCycle : Obligations.EmitBitSendsOneCycle := by
  unfold Obligations.EmitBitSendsOneCycle
  intro s imm v hv hready hcfg hphase hm
  simp only [← State.tones_singleton]
  intro hroom
  have hbody : commandBody (.emitBit imm) s.ack = s.ack.start (.emit (.bit v) 0) := by
    simp only [commandBody, runEmitBit, hv]
  have hchain : EmitsFrom s.ack (.bit v) (.bit v) [v] := .last (fun _ _ _ => rfl) rfl
  rw [← resultWord_of_lt (State.tones_length_lt hcfg hphase (vs := [v]) (Nat.le_add_left 1 8))]
  exact runCommand_emitsFrom (wellFormed_of_bitValueOfCode hv) hready hm hbody hcfg hphase hm hchain hroom

/-! ### EMIT_BYTE -/

/-- The nine cycles of a ByteFrame, `pos i` being that of bit `i`, and then those of `vs` (30_encoding.md R93). -/
theorem EmitsFrom.byteFrame {s : State} {last : EmitPos} {pos : Nat → EmitPos} {b : Byte} {vs : List BitValue}
    (hamp : ∀ i fs a p, emitAmp fs a p (pos i) = a) (hsymbol : ∀ i, emitSymbol (pos i) = frameBit b i)
    (hnext : ∀ i, i < 8 → nextCycle s (pos i) = some (pos (i + 1)))
    (hlast : EmitsFrom s last (pos 8) (.terminator :: vs)) : EmitsFrom s last (pos 0) (byteFrame b ++ vs) := by
  have fromBit (m : Nat) : ∀ i, i + m = 8 →
      EmitsFrom s last (pos i) ((List.range' i m).map (frameBit b) ++ .terminator :: vs) := by
    induction m with
    | zero => rintro i rfl; exact hlast
    | succ m ih =>
      intro i hi
      rw [List.range'_succ, List.map_cons, List.cons_append, ← hsymbol i]
      exact .next (hamp i) (hnext i (by omega)) (ih (i + 1) (by omega))
  exact fromBit 8 0 rfl

theorem emitsFrom_byte (s : State) (b : Byte) : EmitsFrom s (.byte b 8) (.byte b 0) (byteFrame b) := by
  rw [← List.append_nil (Machine.byteFrame b)]
  exact .byteFrame (pos := .byte b) (fun _ _ _ _ => rfl) (fun _ => rfl) (fun _ hi => if_pos hi)
    (.last (fun _ _ _ => rfl) rfl)

/-- Settles O21: the chain of the byte's nine cycles. -/
theorem emitByteSendsItsByteFrame : Obligations.EmitByteSendsItsByteFrame := by
  unfold Obligations.EmitByteSendsItsByteFrame
  intro s b hready hcfg hphase hm xs hroom
  rw [← resultWord_of_lt (State.tones_length_lt hcfg hphase (vs := byteFrame b) le_rfl)]
  exact runCommand_emitsFrom (i := .emitByte b) rfl hready hm rfl hcfg hphase hm (emitsFrom_byte s.ack b) hroom

/-! ### EMIT_BLOCK -/

/-- The ByteFrame of frame position `q`, and then the cycles of `vs` (41_modulator.md R129). -/
theorem EmitsFrom.frame {s : State} {last : EmitPos} {q : Nat} {b cs : Byte} {vs : List BitValue}
    (hlast : EmitsFrom s last (.frame q b 8 cs) (.terminator :: vs)) :
    EmitsFrom s last (.frame q b 0 cs) (Machine.byteFrame b ++ vs) :=
  .byteFrame (pos := fun i => .frame q b i cs) (fun _ _ _ _ => rfl) (fun _ => rfl) (fun _ hi => if_pos hi) hlast

/-- The checksum's ByteFrame ends the block. -/
theorem emitsFrom_checksum (s : State) (cs : Byte) :
    EmitsFrom s (.frame 129 cs 8 cs) (.frame 129 cs 0 cs) (byteFrame cs) := by
  rw [← List.append_nil (byteFrame cs)]
  exact .frame (.last (fun _ _ _ => rfl) rfl)

/-- The `m` payload bytes that follow frame position `q`, and the checksum over them and the sum `cs` before them
(30_encoding.md R94, R95). -/
theorem emitsFrom_payload (s : State) (m : Nat) (q : Nat) (b cs : Byte) (hq : q + m = 128) :
    let payload := (List.range' q m).map s.buf
    let c := payload.foldl (· + ·) cs
    EmitsFrom s (.frame 129 c 8 c) (.frame q b 0 cs) (byteFrame b ++ (payload.flatMap byteFrame ++ byteFrame c)) := by
  induction m generalizing q b cs with
  | zero =>
    obtain rfl : q = 128 := hq
    exact .frame (.next (fun _ _ _ => rfl) rfl (emitsFrom_checksum s cs))
  | succ m ih =>
    have hnext : nextCycle s (.frame q b 8 cs) = some (.frame (q + 1) (s.buf q) 0 (cs + s.buf q)) := by
      rw [nextCycle, if_neg (by decide), Config.payloadBytes, if_pos (by omega)]
    simp only [List.range'_succ, List.map_cons, List.foldl_cons, List.flatMap_cons, List.append_assoc]
    exact .frame (.next (fun _ _ _ => rfl) hnext (ih (q + 1) (s.buf q) (cs + s.buf q) (by omega)))

theorem nextCycle_preamble (s : State) (num : Byte) (cnt : Nat) :
    nextCycle s (.preamble num (cnt + 1)) = some (blockStart num cnt) := by
  cases cnt with
  | zero => rfl
  | succ cnt => simp [nextCycle, blockStart]

/-- The preamble before the TERMINATOR (41_modulator.md R129), which may be empty (R130). -/
theorem EmitsFrom.blockStart {s : State} {last : EmitPos} {num : Byte} {vs : List BitValue}
    (h : EmitsFrom s last (.mark num) vs) (cnt : Nat) :
    EmitsFrom s last (blockStart num cnt) (List.replicate cnt .one ++ vs) := by
  induction cnt with
  | zero => exact h
  | succ cnt ih =>
    rw [blockStart_preamble num cnt.succ_ne_zero]
    exact .next (fun _ _ _ => rfl) (nextCycle_preamble s num cnt) ih

theorem emitsFrom_block (s : State) (num : Byte) (cnt : Nat) :
    EmitsFrom s (.frame 129 (checksum s.payload) 8 (checksum s.payload)) (blockStart num cnt)
      (blockFrame cnt num s.payload) := by
  have hbytes := emitsFrom_payload s 128 0 num 0#8 rfl
  rw [← List.range_eq_range'] at hbytes
  simp only [blockFrame, List.append_assoc]
  exact .blockStart (.next (fun _ _ _ => rfl) rfl hbytes) cnt

/-- Settles O22: the chain of the block's cycles, in the state in which FIRST_PENDING is clear. -/
theorem emitBlockSendsItsBlockFrame : Obligations.EmitBlockSendsItsBlockFrame := by
  unfold Obligations.EmitBlockSendsItsBlockFrame
  intro s num hready hcfg hphase hm vs xs hroom
  have hrun := runCommand_emitsFrom (t := { s.ack with firstPending := false }) (i := .emitBlock num) rfl hready hm rfl
    hcfg hphase hm (emitsFrom_block _ num s.preambleLength) hroom
  refine hrun.trans ?_
  rw [finishEmit, State.finish, resultWord_byte]
  rfl

/-! ### EMIT_RAMP -/

/-- The samples of a ramp's two cycles from PHASE on (41_modulator.md R132). -/
def State.rampTones (s : State) (dir : Direction) : List Int :=
  s.cycleTones (.ramp dir 0) s.phase.toNat ++ s.cycleTones (.ramp dir 1) (s.cycleResidue (.ramp dir 0) s.phase.toNat)

theorem State.rampTones_length_lt {s : State} (hcfg : s.cfgLegal = true) (hphase : s.phaseLegal = true)
    (dir : Direction) : (s.rampTones dir).length < 2 ^ 32 := by
  obtain ⟨-, -, hfs, -⟩ := State.cfgLegal_iff.1 hcfg
  have hinc := (toneIncrement_range hcfg .one).1
  have hp : s.phase.toNat < 4 * s.cfgSampleRate.toNat := of_decide_eq_true hphase
  have hfirst : (s.cycleTones (.ramp dir 0) s.phase.toNat).length ≤ 4 * s.cfgSampleRate.toNat :=
    cycleSamples_length_le _ hinc hp
  have hsecond : (s.cycleTones (.ramp dir 1) (s.cycleResidue (.ramp dir 0) s.phase.toNat)).length
      ≤ 4 * s.cfgSampleRate.toNat :=
    cycleSamples_length_le _ hinc (s.cycleResidue_lt hcfg _ hp)
  rw [Config.maxSampleRate] at hfs
  rw [State.rampTones, List.length_append]
  omega

/-- A ramp whose CMD write starts its first cycle in `t` pushes the two cycles and completes. -/
theorem runCommand_ramp {s t : State} {imm : Byte} {dir : Direction} (hwf : (Instr.emitRamp imm).WellFormed)
    (hready : s.Ready) (hm : s.moves = [])
    (hbody : commandBody (.emitRamp imm) s.ack = t.start (.emit (.ramp dir 0) 0)) (hcfg : t.cfgLegal = true)
    (hphase : t.phaseLegal = true) (hmt : t.moves = []) (hroom : (t.rampTones dir).length ≤ t.sinkRoom) :
    s.runCommand (.emitRamp imm) (t.rampTones dir).length
      = .next (finishEmit
          (t.sent (t.rampTones dir) (t.cycleResidue (.ramp dir 1) (t.cycleResidue (.ramp dir 0) t.phase.toNat)))
          (t.rampTones dir).length (.ramp dir 1)) := by
  have hfirst : t.phase.toNat < 4 * t.cfgSampleRate.toNat := of_decide_eq_true hphase
  have hsecond := t.cycleResidue_lt hcfg (.ramp dir 0) hfirst
  rw [State.runCommand_ready _ hwf hready hm, hbody, State.start_eq_emitting]
  rw [State.rampTones, List.length_append] at hroom
  rw [State.rampTones, List.length_append, run_cycle_next hcfg hmt _ hfirst (by rw [List.length_nil]; omega) rfl,
    List.nil_append, run_cycle_last hcfg hmt hsecond hroom rfl, List.length_append]
  rfl

/-- Settles O23, by direction: UP has zeroed PHASE in the CMD write's step, DOWN goes on from it. -/
theorem emitRampSendsTwoCycles : Obligations.EmitRampSendsTwoCycles := by
  unfold Obligations.EmitRampSendsTwoCycles
  intro s dir hready hcfg hphase hm htx fs inc p0 p1 xs hroom
  cases dir with
  | up =>
    have hopen : commandBody (.emitRamp 0#8) s.ack
        = State.start { s.ack with phase := 0#32, txActive := true, firstPending := true } (.emit (.ramp .up 0) 0) :=
      (runEmitRamp_up s.ack).trans (if_neg (Bool.eq_false_iff.1 htx))
    have hzero : State.phaseLegal { s with phase := 0#32 } = true := decide_eq_true (State.four_fs_pos hcfg)
    have hlen : xs.length < 2 ^ 32 := State.rampTones_length_lt (s := { s with phase := 0#32 }) hcfg hzero .up
    rw [decide_eq_true (rfl : Direction.up = .up), Bool.or_true, ← resultWord_of_lt hlen]
    exact (runCommand_ramp rfl hready hm hopen hcfg hzero hm hroom :)
  | down =>
    have hclose : commandBody (.emitRamp 1#8) s.ack = s.ack.start (.emit (.ramp .down 0) 0) :=
      (runEmitRamp_down s.ack).trans (if_pos htx)
    have hlen : xs.length < 2 ^ 32 := State.rampTones_length_lt hcfg hphase .down
    rw [decide_eq_false (by decide : Direction.down ≠ .up), Bool.or_false, ← resultWord_of_lt hlen]
    exact (runCommand_ramp rfl hready hm hclose hcfg hphase hm hroom :)

end Sys2Proof.Machine
end

section
/-!
SUPPORT. An `edge()` call sample by sample (42_edge_detector.md R145 to R148, 70_reset_and_hazards.md R255), and NEXT_EDGE
from its CMD write to its end (R150).
-/

namespace Sys2Proof.Machine

/-! ### Samples of one sign -/

/-- The sign that `edge()` compares with may be that of the sample just pulled (42_edge_detector.md R145). -/
theorem sameSign_cons {prev x : Sample} {xs : List Sample} :
    sameSign prev (x :: xs) = true ↔ neg x.toInt = neg prev.toInt ∧ sameSign x xs = true := by
  simp only [sameSign, List.all_cons, Bool.and_eq_true, beq_iff_eq]
  refine and_congr_right fun h => ?_
  rw [h]

theorem sameSign_concat {prev x : Sample} {xs : List Sample} :
    sameSign prev (xs ++ [x]) = true ↔ sameSign prev xs = true ∧ neg x.toInt = neg prev.toInt := by
  simp [sameSign]

@[simp] theorem lastSample_cons (prev x : Sample) (xs : List Sample) :
    lastSample prev (x :: xs) = lastSample x xs :=
  List.getLastD_cons ..

@[simp] theorem lastSample_concat (prev x : Sample) (xs : List Sample) : lastSample prev (xs ++ [x]) = x :=
  List.getLastD_concat ..

theorem neg_lastSample {prev : Sample} {xs : List Sample} (h : sameSign prev xs = true) :
    neg (lastSample prev xs).toInt = neg prev.toInt := by
  induction xs generalizing prev with
  | nil => rfl
  | cons x xs ih =>
    obtain ⟨hx, hxs⟩ := sameSign_cons.1 h
    rw [lastSample_cons, ih hxs, hx]

/-! ### The engine's steps of an `edge()` call -/

/-- `s` with an `edge()` call of `use` that has pulled `n` samples, the last of them `x`; the source still offers `xs`. -/
def State.awaiting (s : State) (use : EdgeUse) (n : Nat) (x : Sample) (xs : List Sample) : State :=
  { s with source := xs, prevSample := x, task := some (.receive n use) }

/-- `s` as an `edge()` call that returns leaves it for its consumer: `x` is the last sample, `half` its correction. -/
def State.edgeReturned (s : State) (x : Sample) (half : Bool) (rest : List Sample) : State :=
  { s with source := rest, prevSample := x, prevHalf := half }

theorem State.eq_awaiting {s : State} {use : EdgeUse} (h : s.task = some (.receive 0 use)) :
    s = s.awaiting use 0 s.prevSample s.source := by
  rw [State.awaiting, ← h]

section Edge

variable {s : State} {use : EdgeUse} {n : Nat} {x y : Sample} {xs rest : List Sample}

/-- The consumer of an edge sees nothing of the call that returned it. -/
theorem onEdge_edgeReturned_awaiting (half : Bool) (e : EdgeOutcome) :
    onEdge ((s.awaiting use n x xs).edgeReturned y half rest) use e = onEdge (s.edgeReturned y half rest) use e :=
  onEdge_task (s.edgeReturned y half rest) (some (.receive n use)) use e

/-- The step whose pull makes `edge()` return gives the outcome to its consumer. -/
theorem step_awaiting_of_edgePull (hm : s.moves = []) {half : Bool} {e : EdgeOutcome}
    (hpull : edgePull (s.awaiting use n x rest) n y = ((s.awaiting use n x rest).edgeReturned y half rest, some e)) :
    step (s.awaiting use n x (y :: rest)) = .next (onEdge (s.edgeReturned y half rest) use e) := by
  have hstep : step (s.awaiting use n x (y :: rest)) = .next (receiveStep (s.awaiting use n x rest) n use y) :=
    step_receive _ n use y rest rfl hm rfl
  rw [hstep, receiveStep, hpull]
  exact congrArg _ (onEdge_edgeReturned_awaiting half e)

/-- Short of the timeout, samples of PREV_SAMPLE's sign only move `edge()` on, one step each. -/
theorem run_awaiting_sameSign (k : Nat) (hm : s.moves = []) (hs : sameSign x xs = true)
    (hn : n + xs.length < Config.edgeTimeout s.cfgSampleRate.toNat) :
    Sys2Proof.core.run (xs.length + k) (s.awaiting use n x (xs ++ rest))
      = Sys2Proof.core.run k (s.awaiting use (n + xs.length) (lastSample x xs) rest) := by
  induction xs generalizing n x with
  | nil =>
    rw [List.length_nil, Nat.zero_add]
    rfl
  | cons y xs ih =>
    obtain ⟨hy, hxs⟩ := sameSign_cons.1 hs
    rw [List.length_cons] at hn
    have hmore : n + 1 ≠ Config.edgeTimeout s.cfgSampleRate.toNat := by omega
    have hstep : step (s.awaiting use n x (y :: xs ++ rest)) = .next (s.awaiting use (n + 1) y (xs ++ rest)) :=
      step_receive_more _ n use y (xs ++ rest) rfl hm rfl hy hmore
    rw [List.length_cons, Nat.add_right_comm, core_run_succ _ hstep, ih hxs (by omega), lastSample_cons,
      Nat.add_right_comm, Nat.add_assoc n]

/-- `edge()` up to its sign change, and the run that follows (42_edge_detector.md R145, R147). -/
theorem run_edge (k : Nat) (ht : s.task = some (.receive 0 use)) (hm : s.moves = [])
    (hx : s.source = xs ++ y :: rest) (hs : sameSign s.prevSample xs = true)
    (hflip : neg y.toInt ≠ neg s.prevSample.toInt)
    (hn : xs.length + 1 ≤ Config.edgeTimeout s.cfgSampleRate.toNat) :
    let c := edgeCorrected (lastSample s.prevSample xs) y
    Sys2Proof.core.run (xs.length + 1 + k) s
      = Sys2Proof.core.run k (onEdge (s.edgeReturned y c rest) use
          (.edge (edgeDuration (xs.length + 1) c s.prevOffset) (xs.length + 1))) := by
  intro c
  have hlast : neg y.toInt ≠ neg (lastSample s.prevSample xs).toInt := by rwa [neg_lastSample hs]
  have hpull := edgePull_flip (s.awaiting use xs.length (lastSample s.prevSample xs) rest) xs.length y
    (bne_iff_ne.2 hlast)
  conv_lhs => rw [State.eq_awaiting ht, hx]
  rw [Nat.add_assoc, Nat.add_comm 1 k, run_awaiting_sameSign _ hm hs (by omega), Nat.zero_add,
    core_run_succ k (step_awaiting_of_edgePull hm hpull)]
  rfl

/-- `edge()` up to its timeout, and the run that follows (42_edge_detector.md R148). -/
theorem run_edgeTimeout (k : Nat) (ht : s.task = some (.receive 0 use)) (hm : s.moves = [])
    (hx : s.source = xs ++ rest) (hs : sameSign s.prevSample xs = true)
    (hn : xs.length = Config.edgeTimeout s.cfgSampleRate.toNat) :
    Sys2Proof.core.run (xs.length + k) s
      = Sys2Proof.core.run k (onEdge (s.edgeReturned (lastSample s.prevSample xs) false rest) use
          (.timeout (xs.length * Config.edgeUnits) xs.length)) := by
  obtain rfl | ⟨xs, y, rfl⟩ := xs.eq_nil_or_concat'
  · exact absurd hn.symm (Nat.succ_ne_zero _)
  · obtain ⟨hxs, hy⟩ := sameSign_concat.1 hs
    have hlast : neg y.toInt = neg (lastSample s.prevSample xs).toInt := by rwa [neg_lastSample hxs]
    rw [List.append_assoc] at hx
    rw [List.length_append, List.length_singleton] at hn ⊢
    have hpull := edgePull_timeout (s.awaiting use xs.length (lastSample s.prevSample xs) rest) xs.length y
      (bne_eq_false_iff_eq.2 hlast) hn
    conv_lhs => rw [State.eq_awaiting ht, hx]
    rw [Nat.add_assoc, Nat.add_comm 1 k, run_awaiting_sameSign _ hm hxs (by omega), Nat.zero_add,
      List.singleton_append, core_run_succ k (step_awaiting_of_edgePull hm hpull), lastSample_concat]

end Edge

/-- Settles O26: the samples of one sign, and then the sample that returns the edge or the timeout. -/
theorem edgeReachesItsConsumer : Obligations.EdgeReachesItsConsumer := by
  unfold Obligations.EdgeReachesItsConsumer
  intro s use xs rest ht hm hs
  exact ⟨fun y hx hflip hn => run_edge 0 ht hm hx hs hflip hn, fun hx hn => run_edgeTimeout 0 ht hm hx hs hn⟩

/-! ### NEXT_EDGE -/

/-- At most `N_E` samples and a correction, in edge units, fit in a result register (30_encoding.md R91). -/
theorem edge_units_lt_two_pow {s : State} (hcfg : s.cfgLegal = true) {n : Nat}
    (hn : n ≤ s.cfgSampleRate.toNat / 128 + 1) : n * 128 + 64 < 2 ^ 32 := by
  obtain ⟨-, -, hfs, -⟩ := State.cfgLegal_iff.1 hcfg
  simp only [Config.maxSampleRate] at hfs
  omega

theorem edgeDuration_le (n : Nat) (c : Bool) (coff : Nat) : edgeDuration n c coff ≤ n * 128 + 64 := by
  have hc : correction c ≤ 64 := by cases c <;> decide
  simp only [edgeDuration, Config.edgeUnits]
  omega

/-- NEXT_EDGE, begun in a ready state, completes with the outcome of its edge (42_edge_detector.md R150). -/
theorem finish_edgeReturned {s : State} (hready : s.Ready) (y : Sample) (half : Bool) (rest : List Sample)
    {d n : Nat} (timeout : Bool) (hd : d < 2 ^ 32) (hn : n < 2 ^ 32) :
    ((s.ack.awaitEdge .report).edgeReturned y half rest).finish d n timeout = { s with
      source := rest, prevSample := y, prevHalf := half, result0 := BitVec.ofNat 32 d, result1 := BitVec.ofNat 32 n
      timeout := timeout, done := true, response := .ack } := by
  rw [State.finish, resultWord_of_lt hd, resultWord_of_lt hn, ← s.busy_eq_false.1 hready.1]
  rfl

/-- Settles O24: the edge of the call that the CMD write began completes NEXT_EDGE. -/
theorem nextEdgeMeasuresAnEdge : Obligations.NextEdgeMeasuresAnEdge := by
  unfold Obligations.NextEdgeMeasuresAnEdge
  intro s xs y rest hready hcfg hm hx hs hflip hn last c
  have hfits := edge_units_lt_two_pow hcfg hn
  have hdur : edgeDuration (xs.length + 1) c s.prevOffset < 2 ^ 32 := (edgeDuration_le _ _ _).trans_lt hfits
  have hrun := run_edge (s := s.ack.awaitEdge .report) 0 rfl hm hx hs hflip hn
  rw [State.runCommand_ready _ rfl hready hm]
  exact hrun.trans (congrArg _ (finish_edgeReturned hready y c rest false hdur (by omega)))

/-- Settles O25: the timeout of the call that the CMD write began completes NEXT_EDGE. -/
theorem nextEdgeTimesOutInSilence : Obligations.NextEdgeTimesOutInSilence := by
  unfold Obligations.NextEdgeTimesOutInSilence
  intro s xs rest hready hcfg hm hx hs hn
  have hfits := edge_units_lt_two_pow hcfg hn.le
  have hdur : xs.length * 128 < 2 ^ 32 := by omega
  have hrun := run_edgeTimeout (s := s.ack.awaitEdge .report) 0 rfl hm hx hs hn
  rw [State.runCommand_ready _ rfl hready hm]
  exact hrun.trans (congrArg _ (finish_edgeReturned hready _ false rest true hdur (by omega)))

end Sys2Proof.Machine
end

section
/-!
SUPPORT. One edge of an acquisition (43_synchronizer.md R160 to R168), and ACQUIRE_SYNC from its CMD write to its end
within the budget (R161).
-/

namespace Sys2Proof.Machine

/-! ### What an edge makes of the accumulator -/

theorem syncEdge_over_budget {fs : Nat} {acc : SyncAcc} {e : EdgeOutcome}
    (h : Config.syncBudget fs < acc.tot + e.dur) : syncEdge fs acc e = .timedOut (acc.tot + e.dur) :=
  if_pos h

section WithinBudget

variable {fs : Nat} {acc : SyncAcc} {e : EdgeOutcome} (h : ¬ Config.syncBudget fs < acc.tot + e.dur)
include h

theorem syncEdge_scan (hc : acc.confirm = none) :
    syncEdge fs acc e = syncScan acc.count acc.sum (acc.tot + e.dur) e := by
  rw [syncEdge, if_neg h, hc]

theorem syncEdge_confirm {avg : Nat} (hc : acc.confirm = some avg) :
    syncEdge fs acc e = syncConfirm avg (acc.tot + e.dur) e := by
  rw [syncEdge, if_neg h, hc]

/-- Silence resets the run, whether a candidate waits or not (43_synchronizer.md R166, R167). -/
theorem syncEdge_silence (he : e.isTimeout = true) : syncEdge fs acc e = syncRestart (acc.tot + e.dur) := by
  cases e with
  | edge d n => cases he
  | timeout d n =>
    cases hc : acc.confirm with
    | none => exact syncEdge_scan h hc
    | some avg => exact syncEdge_confirm h hc

end WithinBudget

section Tests

variable {e : EdgeOutcome} (he : ¬ e.isTimeout = true)
include he

/-- An edge is consistent with its run, or a transition with a candidate in range, or the run is reset
(43_synchronizer.md R162 to R164, R166). -/
theorem syncScan_edge (count sum tot : Nat) :
    syncScan count sum tot e =
      if 3 * sum ≤ 4 * (count * e.dur) ∧ 4 * (count * e.dur) ≤ 5 * sum then
        .more { count := count + 1, sum := sum + e.dur, tot := tot, confirm := none }
      else if 32 < count ∧ 4 * sum ≤ 3 * (count * e.dur) ∧ 3 * (count * e.dur) ≤ 8 * sum
          ∧ 256 ≤ syncAverage count sum ∧ syncAverage count sum ≤ 8192 then
        .more { count := count, sum := sum, tot := tot, confirm := some (syncAverage count sum) }
      else syncRestart tot := by
  cases e with
  | timeout d n => exact absurd rfl he
  | edge d n =>
    simp only [syncScan, syncConsistent, syncTransition, syncInRange, EdgeOutcome.dur, Bool.and_eq_true,
      decide_eq_true_eq, and_assoc]
    rfl

/-- The confirm edge finds the baseline, or the run is reset (43_synchronizer.md R165, R166). -/
theorem syncConfirm_edge (avg tot : Nat) :
    syncConfirm avg tot e = if 4 * avg ≤ 3 * e.dur ∧ 3 * e.dur ≤ 8 * avg then .sync avg tot else syncRestart tot := by
  cases e with
  | timeout d n => exact absurd rfl he
  | edge d n =>
    simp only [syncConfirm, syncConfirms, EdgeOutcome.dur, Bool.and_eq_true, decide_eq_true_eq]
    rfl

end Tests

/-- An acquisition that goes on has counted the edge and is within its budget (43_synchronizer.md R160, R161). -/
theorem syncEdge_more_tot {fs : Nat} {acc acc' : SyncAcc} {e : EdgeOutcome} (h : syncEdge fs acc e = .more acc') :
    acc'.tot = acc.tot + e.dur ∧ acc'.tot ≤ Config.syncBudget fs := by
  by_cases hspent : Config.syncBudget fs < acc.tot + e.dur
  · rw [syncEdge_over_budget hspent] at h
    cases h
  suffices htot : acc'.tot = acc.tot + e.dur from ⟨htot, htot ▸ Nat.not_lt.1 hspent⟩
  by_cases he : e.isTimeout = true
  · rw [syncEdge_silence hspent he] at h
    cases h
    rfl
  cases hc : acc.confirm with
  | none =>
    rw [syncEdge_scan hspent hc, syncScan_edge he] at h
    split at h
    · cases h
      rfl
    · split at h <;> cases h <;> rfl
  | some avg =>
    rw [syncEdge_confirm hspent hc, syncConfirm_edge he] at h
    split at h <;> cases h
    rfl

/-! ### What the command makes of it -/

/-- The command that acquires, on the result of an edge (43_synchronizer.md R168, 44_demodulator.md R183, R184). -/
def State.afterSyncEdge (s : State) (forBlock : Bool) : SyncResult → State
  | .more acc => s.awaitEdge (.sync forBlock acc)
  | .sync avg tot => acquired s forBlock avg tot
  | .timedOut tot => s.finish 0 tot true

theorem onEdge_sync (s : State) (forBlock : Bool) (acc : SyncAcc) (e : EdgeOutcome) :
    onEdge s (.sync forBlock acc) e = s.afterSyncEdge forBlock (syncEdge s.cfgSampleRate.toNat acc e) := by
  simp only [onEdge, acquireEdge]
  cases syncEdge s.cfgSampleRate.toNat acc e <;> rfl

/-- Settles O27: the budget, then the outcome of the edge, then the scan's tests or the confirm test. -/
theorem acquisitionTakesOneEdge : Obligations.AcquisitionTakesOneEdge := by
  unfold Obligations.AcquisitionTakesOneEdge
  intro s forBlock acc e tot x avg go restart
  rw [onEdge_sync]
  split
  next hspent => exact congrArg (s.afterSyncEdge forBlock) (syncEdge_over_budget hspent)
  next hbudget =>
    split
    next he => exact congrArg (s.afterSyncEdge forBlock) (syncEdge_silence hbudget he)
    next he =>
      split
      next hc =>
        rw [syncEdge_scan hbudget hc, syncScan_edge he, apply_ite (s.afterSyncEdge forBlock),
          apply_ite (s.afterSyncEdge forBlock)]
        rfl
      next b hc =>
        rw [syncEdge_confirm hbudget hc, syncConfirm_edge he, apply_ite (s.afterSyncEdge forBlock)]
        cases forBlock <;> rfl

/-! ### ACQUIRE_SYNC from its CMD write to its end -/

/-- In `s` an ACQUIRE_SYNC that has pulled `p` samples runs without an error, `n` of them in its present `edge()` call,
and the source still offers `xs`. `dated` says that the durations it has counted are those of its samples but for the
corrections at the two ends (42_edge_detector.md R147), so that its budget bounds the samples. -/
structure State.Acquiring (s : State) (fs p n : Nat) (acc : SyncAcc) (xs : List Sample) : Prop where
  task : s.task = some (.receive n (.sync false acc))
  moves : s.moves = []
  err : s.err = .none
  rate : s.cfgSampleRate.toNat = fs
  source : s.source = xs
  call : n < Config.edgeTimeout fs
  budget : acc.tot ≤ Config.syncBudget fs
  dated : p * 128 + s.prevOffset ≤ acc.tot + 64 + n * 128

/-- In `s` the command has ended without an error, and the source still offers `xs`. -/
def State.EndedCleanly (s : State) (xs : List Sample) : Prop :=
  s.busy = false ∧ s.err = .none ∧ s.done = true ∧ s.source = xs

/-- A running acquisition has pulled fewer than `3*fs + N_E` samples (43_synchronizer.md section 2). -/
theorem State.Acquiring.pulled_lt {s : State} {fs p n : Nat} {acc : SyncAcc} {xs : List Sample}
    (h : s.Acquiring fs p n acc xs) : p < 3 * fs + Config.edgeTimeout fs := by
  obtain ⟨-, -, -, -, -, hcall, hbudget, hdated⟩ := h
  simp only [Config.syncBudget, Config.syncTimeoutSeconds, Config.edgeUnits] at hbudget
  omega

section Acquiring

variable {s : State} {fs p n : Nat} {acc : SyncAcc} {xs : List Sample}

/-- An edge that dates the `p` samples pulled so far ends the acquisition cleanly, or the next `edge()` call begins. -/
theorem onEdge_sync_ends_or_acquires {e : EdgeOutcome} (hm : s.moves = []) (herr : s.err = .none)
    (hfs : s.cfgSampleRate.toNat = fs) (hx : s.source = xs) (hdated : p * 128 + s.prevOffset ≤ acc.tot + e.dur + 64) :
    (onEdge s (.sync false acc) e).EndedCleanly xs
      ∨ ∃ n' acc', (onEdge s (.sync false acc) e).Acquiring fs p n' acc' xs := by
  rw [onEdge_sync, hfs]
  cases h : syncEdge fs acc e with
  | more acc' =>
    obtain ⟨htot, hbudget⟩ := syncEdge_more_tot h
    exact .inr ⟨0, acc', rfl, hm, herr, hfs, hx, Nat.succ_pos _, hbudget, by rwa [htot, Nat.zero_mul]⟩
  | sync avg tot => exact .inl ⟨rfl, herr, rfl, hx⟩
  | timedOut tot => exact .inl ⟨rfl, herr, rfl, hx⟩

/-- One sample ends the acquisition, or it has pulled one sample more. -/
theorem State.Acquiring.step {x : Sample} (h : s.Acquiring fs p n acc (x :: xs)) :
    ∃ t, step s = .next t ∧ (t.EndedCleanly xs ∨ ∃ n' acc', t.Acquiring fs (p + 1) n' acc' xs) := by
  obtain ⟨htask, hm, herr, hfs, hx, hcall, hbudget, hdated⟩ := h
  refine ⟨_, step_receive s n _ x xs htask hm hx, ?_⟩
  obtain ⟨-, hpull⟩ | ⟨-, -, hpull⟩ | ⟨-, hn, hpull⟩ := edgePull_cases { s with source := xs } n x
  all_goals rw [receiveStep, hpull]
  · refine onEdge_sync_ends_or_acquires hm herr hfs rfl ?_
    show (p + 1) * 128 + correction (edgeCorrected s.prevSample x)
      ≤ acc.tot + ((n + 1) * 128 + correction (edgeCorrected s.prevSample x) - s.prevOffset) + 64
    omega
  · refine onEdge_sync_ends_or_acquires hm herr hfs rfl ?_
    show (p + 1) * 128 + 0 ≤ acc.tot + (n + 1) * 128 + 64
    omega
  · refine .inr ⟨n + 1, acc, rfl, hm, herr, hfs, rfl, ?_, hbudget, ?_⟩
    · exact lt_of_le_of_ne hcall (hfs ▸ hn)
    · show (p + 1) * 128 + s.prevOffset ≤ acc.tot + 64 + (n + 1) * 128
      omega

/-- An acquisition on a source that offers the samples left to its bound ends cleanly. -/
theorem State.Acquiring.run_ends (k : Nat) (h : s.Acquiring fs p n acc xs)
    (hk : p + k = 3 * fs + Config.edgeTimeout fs) (hxs : k ≤ xs.length) :
    ∃ j t, j ≤ k ∧ Sys2Proof.core.run j s = .next t ∧ t.EndedCleanly (xs.drop j) := by
  induction k generalizing s p n acc xs with
  | zero => exact absurd hk h.pulled_lt.ne
  | succ k ih =>
    cases xs with
    | nil => cases hxs
    | cons x xs =>
      obtain ⟨t, hstep, hend | ⟨n', acc', hrun⟩⟩ := h.step
      · exact ⟨1, t, by omega, core_run_succ 0 hstep, hend⟩
      · obtain ⟨j, u, hj, hrun, hend⟩ := ih hrun (by omega) (Nat.le_of_succ_le_succ hxs)
        exact ⟨j + 1, u, by omega, (core_run_succ j hstep).trans hrun, hend⟩

end Acquiring

/-- Settles O28: ACQUIRE_SYNC starts acquiring, and the budget bounds its samples. -/
theorem acquisitionEndsWithinItsBudget : Obligations.AcquisitionEndsWithinItsBudget := by
  unfold Obligations.AcquisitionEndsWithinItsBudget
  intro s hready hm hlive
  have hstart : (commandBody .acquireSync s.ack).Acquiring s.cfgSampleRate.toNat 0 0 .start s.source :=
    ⟨rfl, hm, hready.2, rfl, rfl, Nat.succ_pos _, Nat.zero_le _, (Nat.zero_add _).trans_le s.prevOffset_le⟩
  obtain ⟨k, t, hk, hrun, hend⟩ := hstart.run_ends _ (Nat.zero_add _) hlive
  exact ⟨k, t, hk, (s.runCommand_ready k rfl hready hm).trans hrun, hend⟩

end Sys2Proof.Machine
end

section
/-!
SUPPORT. One bit of the demodulator (44_demodulator.md): the class of a pair of half-cycles (R175 to R179), what each bit
makes of the command that wants it (R180 to R185), NO_BASELINE (R221), and DECODE_BIT from its CMD write to its end.
-/

namespace Sys2Proof.Machine

/-! ### The CMD write without a baseline -/

/-- Settles O19: both commands check the baseline before their first edge. -/
theorem decodeWithoutBaselineRaises : Obligations.DecodeWithoutBaselineRaises := by
  unfold Obligations.DecodeWithoutBaselineRaises
  intro s hready hinvalid raised
  have hraised : s.usageErr .noBaseline = raised := State.usageErr_of_ready .noBaseline hready
  have hbit : runDecodeBit s = raised := (if_neg (Bool.eq_false_iff.1 hinvalid)).trans hraised
  have hbyte : runDecodeByte s = raised := (if_neg (Bool.eq_false_iff.1 hinvalid)).trans hraised
  exact ⟨(exec_ready .decodeBit s hready.1 hready.2).trans (congrArg _ hbit),
    (exec_ready .decodeByte s hready.1 hready.2).trans (congrArg _ hbyte)⟩

/-! ### The class of a pair of half-cycles -/

theorem saneFirst_iff {b f : Nat} : saneFirst b f = true ↔ 9 * b ≤ 24 * f ∧ 24 * f ≤ 64 * b := by
  simp only [saneFirst, inBand, Bool.and_eq_true, decide_eq_true_eq]

/-- The table of R175 in the order of R176, for a second edge that did not time out. -/
theorem classify_pair (b f g : Nat) :
    classify b f (some g) =
      if 9 * b ≤ 24 * f ∧ 24 * f ≤ 15 * b ∧ 8 * b ≤ 24 * g ∧ 24 * g < 16 * b then some .zero
      else if 18 * b ≤ 24 * f ∧ 24 * f ≤ 30 * b ∧ 16 * b ≤ 24 * g ∧ 24 * g < 32 * b then some .one
      else if 36 * b ≤ 24 * f ∧ 24 * f ≤ 60 * b ∧ 32 * b ≤ 24 * g then some .terminator
      else none := by
  simp only [classify, inBand, inBandOpen, Bool.and_eq_true, decide_eq_true_eq, and_assoc]

section Pair

variable {b f g : Nat}

theorem classify_zero (h : 9 * b ≤ 24 * f ∧ 24 * f ≤ 15 * b ∧ 8 * b ≤ 24 * g ∧ 24 * g < 16 * b) :
    classify b f (some g) = some .zero := by
  rw [classify_pair, if_pos h]

/-- The bands of the second half-cycle do not overlap. -/
theorem classify_one (h : 18 * b ≤ 24 * f ∧ 24 * f ≤ 30 * b ∧ 16 * b ≤ 24 * g ∧ 24 * g < 32 * b) :
    classify b f (some g) = some .one := by
  rw [classify_pair, if_neg (by omega), if_pos h]

theorem classify_terminator (h : 36 * b ≤ 24 * f ∧ 24 * f ≤ 60 * b ∧ 32 * b ≤ 24 * g) :
    classify b f (some g) = some .terminator := by
  rw [classify_pair, if_neg (by omega), if_neg (by omega), if_pos h]

theorem classify_none (hzero : ¬ (9 * b ≤ 24 * f ∧ 24 * f ≤ 15 * b ∧ 8 * b ≤ 24 * g ∧ 24 * g < 16 * b))
    (hone : ¬ (18 * b ≤ 24 * f ∧ 24 * f ≤ 30 * b ∧ 16 * b ≤ 24 * g ∧ 24 * g < 32 * b))
    (hterminator : ¬ (36 * b ≤ 24 * f ∧ 24 * f ≤ 60 * b ∧ 32 * b ≤ 24 * g)) : classify b f (some g) = none := by
  rw [classify_pair, if_neg hzero, if_neg hone, if_neg hterminator]

end Pair

/-- A second edge that timed out is a TERMINATOR's or nothing's (44_demodulator.md R178). -/
theorem classify_timeout (b f : Nat) :
    classify b f none = if 36 * b ≤ 24 * f ∧ 24 * f ≤ 60 * b then some .terminator else none := by
  simp [classify, inBand]

/-! ### The two edges of a bit -/

theorem onEdge_first_timeout (s : State) (use : BitUse) (d n : Nat) :
    onEdge s (.first use) (.timeout d n) = s.aborted .decode Word.allOnes 0#32 use.framePos :=
  raiseErr_bitErrPos s .decode _ _ use

theorem onEdge_first_edge (s : State) (use : BitUse) (f n : Nat) :
    onEdge s (.first use) (.edge f n) =
      if 9 * s.baseline.toNat ≤ 24 * f ∧ 24 * f ≤ 64 * s.baseline.toNat then s.awaitEdge (.second f use)
      else s.aborted .decode (resultWord f) 0#32 use.framePos := by
  simp only [onEdge, bitFirstEdge, saneFirst_iff, raiseErr_bitErrPos]

theorem onEdge_second_of_class {s : State} {f : Nat} {e : EdgeOutcome} {v : BitValue} (use : BitUse)
    (h : classify s.baseline.toNat f (secondHalf e) = some v) : onEdge s (.second f use) e = gotBit s use v := by
  simp only [onEdge, bitSecondEdge, h]

theorem onEdge_second_of_noClass {s : State} {f : Nat} {e : EdgeOutcome} (use : BitUse)
    (h : classify s.baseline.toNat f (secondHalf e) = none) :
    onEdge s (.second f use) e
      = s.aborted .decode (resultWord f) (secondHalfWord (secondHalf e)) use.framePos := by
  simp only [onEdge, bitSecondEdge, h, raiseErr_bitErrPos]

/-- Settles O30, by the outcome of the first edge. -/
theorem firstHalfCycleIsChecked : Obligations.FirstHalfCycleIsChecked := by
  unfold Obligations.FirstHalfCycleIsChecked
  intro s use d n hd
  refine ⟨onEdge_first_timeout s use d n, ?_⟩
  rw [onEdge_first_edge, resultWord_of_lt hd]
  rfl

/-! ### What a bit makes of its command -/

/-- The TERMINATOR after the eight data bits ends DECODE_BYTE (44_demodulator.md R181, R182). -/
theorem gotBit_byte_last (s : State) (v : Byte) :
    gotBit s (.byte 8 v) .terminator = s.completed (v.setWidth 32) 0#32 := by
  rw [← resultWord_byte]
  rfl

/-- The TERMINATOR after the eight data bits ends the byte of a block frame (44_demodulator.md R183). -/
theorem gotBit_block_last (s : State) (pos : Nat) (num cs v : Byte) :
    gotBit s (.block pos num cs 8 v) .terminator = blockByte s pos num cs v := rfl

/-- A payload byte is stored and added to the checksum (44_demodulator.md R183, R184). -/
theorem blockByte_payload (s : State) {k : Nat} (hk : k < 128) (num cs v : Byte) :
    blockByte s (k + 1) num cs v = (s.setBuf k v).awaitEdge (.first (.block (k + 2) num (cs + v) 0 0#8)) := by
  rw [blockByte, if_neg (Nat.succ_ne_zero k), if_pos (show k + 1 ≤ Config.payloadBytes from hk)]
  rfl

/-- The byte at frame position 129 is compared with the sum (44_demodulator.md R185). -/
theorem blockByte_checksum (s : State) (num cs v : Byte) :
    blockByte s 129 num cs v =
      if v = cs then s.completed (num.setWidth 32) (cs.setWidth 32)
      else s.aborted .checksum (v.setWidth 32) (cs.setWidth 32) (some 129) := by
  rw [blockByte, if_neg (by decide), if_neg (by decide), finish_eq_completed, resultWord_byte, resultWord_byte,
    raiseErr_at]

/-- A TERMINATOR before the ninth bit (60_exceptions.md R217). -/
theorem gotBit_early_terminator (s : State) {i pos : Nat} {v num cs : Byte} {use : BitUse} (hi : i < 8)
    (huse : use ∈ [BitUse.byte i v, BitUse.block pos num cs i v]) :
    gotBit s use .terminator = s.aborted .framing (BitVec.ofNat 32 i) (v.setWidth 32) use.framePos := by
  have hstep : byteStep i v .terminator = .framing := by simp only [byteStep, hi, if_true]
  obtain rfl | rfl := List.mem_pair.1 huse
  · simp only [gotBit, hstep]
    rfl
  · simp only [gotBit, hstep]
    rfl

/-- A ninth bit that is no TERMINATOR (60_exceptions.md R218). -/
theorem gotBit_late_data (s : State) {pos : Nat} {v num cs : Byte} {use : BitUse} {c : BitValue}
    (hc : c ≠ .terminator) (huse : use ∈ [BitUse.byte 8 v, BitUse.block pos num cs 8 v]) :
    gotBit s use c = s.aborted .syncLoss (BitVec.ofNat 32 (bitValueCode c)) (v.setWidth 32) use.framePos := by
  have hstep : byteStep 8 v c = .syncLoss := by simp only [byteStep, hc, if_false, Nat.lt_irrefl]
  obtain rfl | rfl := List.mem_pair.1 huse
  · simp only [gotBit, hstep]
    rfl
  · simp only [gotBit, hstep]
    rfl

/-- Settles O31: the timeout is classified by the first half-cycle alone, and as a TERMINATOR it ends what a second
half-cycle of TERMINATOR's band ends. -/
theorem secondEdgeTimeoutIsATerminator : Obligations.SecondEdgeTimeoutIsATerminator := by
  unfold Obligations.SecondEdgeTimeoutIsATerminator
  intro s f d n hf b
  constructor
  · intro hband use
    rw [← resultWord_of_lt hf]
    exact onEdge_second_of_noClass use ((classify_timeout b f).trans (if_neg hband))
  · intro hlo hhi
    have hterminator (use : BitUse) : onEdge s (.second f use) (.timeout d n) = gotBit s use .terminator :=
      onEdge_second_of_class use ((classify_timeout b f).trans (if_pos ⟨hlo, hhi⟩))
    refine ⟨hterminator .bit, fun v => ?_, fun num cs v => ?_, fun use g m hg => ?_⟩
    · rw [hterminator, gotBit_byte_last]
    · rw [hterminator, gotBit_block_last, blockByte_checksum]
    · rw [hterminator, onEdge_second_of_class (e := .edge g m) use (classify_terminator ⟨hlo, hhi, hg⟩)]

/-- Settles O32: no class is DECODE, and a class is a bit that its place in the byte refuses. -/
theorem byteFrameErrorsAreRaised : Obligations.ByteFrameErrorsAreRaised := by
  unfold Obligations.ByteFrameErrorsAreRaised
  intro s f b
  constructor
  · intro use g n hf hg hzero hone hterminator
    rw [← resultWord_of_lt hf, ← resultWord_of_lt hg]
    exact onEdge_second_of_noClass (e := .edge g n) use (classify_none hzero hone hterminator)
  · intro i v num cs pos e c hclass use huse
    rw [onEdge_second_of_class use hclass]
    constructor
    · rintro hi rfl
      exact gotBit_early_terminator s hi huse
    · rintro rfl hc
      exact gotBit_late_data s hc huse

/-! ### DECODE_BIT from its CMD write to its end -/

theorem State.aborted_of_ready {s : State} (code : ErrCode) (r0 r1 : Word) (h : s.Ready) :
    s.aborted code r0 r1 none = { s with
      result0 := r0, result1 := r1, timeout := false, err := code, errPos := 0xFFFFFFFF#32, done := true } := by
  simp only [State.aborted, h.2, if_true, s.busy_eq_false.1 h.1]

/-- DECODE_BIT over two half-cycles, the first in the sanity window: its second edge reaches the state its samples leave,
the command's own `edge()` calls left out of it (44_demodulator.md R176). -/
theorem runCommand_decodeBit {s : State} {xs xs' rest : List Sample} {y y' : Sample} (hready : s.Ready)
    (hm : s.moves = []) (hvalid : s.baselineValid = true) (hx : s.source = xs ++ y :: (xs' ++ y' :: rest))
    (hs : sameSign s.prevSample xs = true) (hflip : neg y.toInt ≠ neg s.prevSample.toInt)
    (hn : xs.length + 1 ≤ Config.edgeTimeout s.cfgSampleRate.toNat)
    (hs' : sameSign y xs' = true) (hflip' : neg y'.toInt ≠ neg y.toInt)
    (hn' : xs'.length + 1 ≤ Config.edgeTimeout s.cfgSampleRate.toNat) :
    let c := edgeCorrected (lastSample s.prevSample xs) y
    let c' := edgeCorrected (lastSample y xs') y'
    let f := edgeDuration (xs.length + 1) c s.prevOffset
    let g := edgeDuration (xs'.length + 1) c' (correction c)
    9 * s.baseline.toNat ≤ 24 * f ∧ 24 * f ≤ 64 * s.baseline.toNat →
      s.runCommand .decodeBit (xs.length + 1 + (xs'.length + 1)) = .next
        (onEdge (s.ack.edgeReturned y' c' rest) (.second f .bit) (.edge g (xs'.length + 1))) := by
  intro c c' f g hsane
  let t := (s.ack.awaitEdge (.first .bit)).edgeReturned y c (xs' ++ y' :: rest)
  have hbody : commandBody .decodeBit s.ack = s.ack.awaitEdge (.first .bit) := if_pos hvalid
  have hfirst : onEdge t (.first .bit) (.edge f (xs.length + 1)) = t.awaitEdge (.second f .bit) :=
    (onEdge_first_edge t .bit f _).trans (if_pos hsane)
  rw [State.runCommand_ready _ rfl hready hm, hbody,
    run_edge (s := s.ack.awaitEdge (.first .bit)) _ rfl hm hx hs hflip hn]
  refine (congrArg _ hfirst).trans ?_
  rw [run_edge (s := t.awaitEdge (.second f .bit)) 0 rfl hm rfl hs' hflip' hn']
  exact congrArg _ (onEdge_task (s.ack.edgeReturned y' c' rest) (some (.receive 0 (.second f .bit))) _ _)

/-- Settles O29: the class of the pair is DECODE_BIT's result, and a pair of no class its error. -/
theorem decodeBitClassifiesTwoHalfCycles : Obligations.DecodeBitClassifiesTwoHalfCycles := by
  unfold Obligations.DecodeBitClassifiesTwoHalfCycles
  intro s xs y xs' y' rest hready hcfg hm hvalid hx hs hflip hn hs' hflip' hn' c c' f g b ended hlo hhi
  have hf : f < 2 ^ 32 := (edgeDuration_le _ c s.prevOffset).trans_lt (edge_units_lt_two_pow hcfg hn)
  have hg : g < 2 ^ 32 := (edgeDuration_le _ c' (correction c)).trans_lt (edge_units_lt_two_pow hcfg hn')
  let t := s.ack.edgeReturned y' c' rest
  have ht : t.Ready := hready
  have hcode (v : BitValue) (h : classify b f (some g) = some v) :
      onEdge t (.second f .bit) (.edge g (xs'.length + 1)) = { ended with result0 := resultWord (bitValueCode v) } :=
    (onEdge_second_of_class .bit h).trans (t.finish_of_ready _ 0 false ht)
  refine (runCommand_decodeBit hready hm hvalid hx hs hflip hn hs' hflip' hn' ⟨hlo, hhi⟩).trans (congrArg _ ?_)
  split
  next hzero => exact hcode .zero (classify_zero ⟨hlo, hzero⟩)
  next hzero =>
    split
    next hone => exact hcode .one (classify_one hone)
    next hone =>
      split
      next hterminator => exact hcode .terminator (classify_terminator hterminator)
      next hterminator =>
        rw [← resultWord_of_lt hf, ← resultWord_of_lt hg]
        exact (onEdge_second_of_noClass (s := t) (e := .edge g _) .bit
          (classify_none (fun h => hzero h.2) hone hterminator)).trans (State.aborted_of_ready _ _ _ ht)

end Sys2Proof.Machine
end

section
/-!
SUPPORT. The bytes of the demodulator: pairs of edges that carry symbols, read as ByteFrames (30_encoding.md R93) by
DECODE_BYTE and DECODE_BLOCK (44_demodulator.md R181 to R185).
-/

namespace Sys2Proof.Machine

/-! ### From pairs of edges to symbols -/

/-- In `s` the command that wants the bit `use` reads the symbols `vs`, and the last of them makes the state `t`. The
running `edge()` call is left out of `s`. -/
inductive ReadsFrom (t : State) : State → BitUse → List BitValue → Prop
  | last {s : State} {use : BitUse} {v : BitValue} (h : gotBit s use v = t) : ReadsFrom t s use [v]
  | next {s s' : State} {use use' : BitUse} {v : BitValue} {vs : List BitValue}
      (h : gotBit s use v = s'.awaitEdge (.first use')) (hrest : ReadsFrom t s' use' vs) :
      ReadsFrom t s use (v :: vs)

theorem gotBit_baseline (s : State) (use : BitUse) (v : BitValue) : (gotBit s use v).baseline = s.baseline :=
  (gotBit_effect s 0 use v).engineState.2.resolve_right fun ⟨_, _, h⟩ => EdgeUse.noConfusion h

/-- A pair of edges that carries a symbol gives it to the command (44_demodulator.md R176). -/
theorem feedEdge_pair (s : State) (n : Nat) (use : BitUse) {v : BitValue} {p : EdgeOutcome × EdgeOutcome}
    (hp : carriesBit s.baseline.toNat v p = true) :
    feedEdge (feedEdge (s.start (.receive n (.first use))) p.1) p.2 = gotBit s use v := by
  obtain ⟨e, e'⟩ := p
  simp only [carriesBit, Bool.and_eq_true, Bool.not_eq_true', beq_iff_eq] at hp
  obtain ⟨⟨hedge, hsane⟩, hclass⟩ := hp
  cases e with
  | timeout d m => cases hedge
  | edge f m =>
    have hfirst : feedEdge (s.start (.receive n (.first use))) (.edge f m) = s.awaitEdge (.second f use) :=
      (onEdge_first_edge (s.start (.receive n (.first use))) use f m).trans (if_pos (saneFirst_iff.1 hsane))
    rw [hfirst]
    exact (onEdge_task s _ (.second f use) e').trans (onEdge_second_of_class use hclass)

/-- Pairs of edges that carry the symbols bring the command to the end of its reading. -/
theorem ReadsFrom.feedPairs {s t : State} {use : BitUse} {vs : List BitValue} (h : ReadsFrom t s use vs) {n : Nat}
    {es : List (EdgeOutcome × EdgeOutcome)} (hes : carries s.baseline.toNat vs es = true) :
    feedPairs (s.start (.receive n (.first use))) es = t := by
  induction h generalizing n es with
  | @last s use v h =>
    obtain _ | ⟨p, _ | ⟨q, ps⟩⟩ := es
    · cases hes
    · rw [carries, carries, Bool.and_true] at hes
      exact (feedEdge_pair s n use hes).trans h
    · rw [carries, carries, Bool.and_false] at hes
      cases hes
  | @next s s' use use' v vs h hrest ih =>
    cases es with
    | nil => cases hes
    | cons p ps =>
      rw [carries, Bool.and_eq_true] at hes
      obtain ⟨hp, hps⟩ := hes
      have hbaseline : s'.baseline = s.baseline := by rw [← gotBit_baseline s use v, h]; rfl
      rw [← hbaseline] at hps
      have hpair := (feedEdge_pair s n use hp).trans h
      rw [Machine.feedPairs, List.foldl_cons, hpair]
      exact ih hps

/-- The same of a command that waits for the first edge of its bit. -/
theorem feedPairs_of_task {s t : State} {n : Nat} {use : BitUse} {vs : List BitValue}
    {es : List (EdgeOutcome × EdgeOutcome)} (ht : s.task = some (.receive n (.first use))) (h : ReadsFrom t s use vs)
    (hes : carries s.baseline.toNat vs es = true) : feedPairs s es = t := by
  have hs : s = s.start (.receive n (.first use)) := by rw [State.start, ← ht]
  rw [hs]
  exact h.feedPairs hes

/-! ### A ByteFrame -/

/-- The bits of `b` below `i`, as the decoder has them after `i` data bits (44_demodulator.md R181). -/
def lowBits (b : Byte) (i : Nat) : Byte := (b.setWidth i).setWidth 8

theorem lowBits_zero (b : Byte) : lowBits b 0 = 0#8 := by
  rw [lowBits, BitVec.of_length_zero (x := b.setWidth 0)]
  rfl

theorem lowBits_eight (b : Byte) : lowBits b 8 = b := by
  rw [lowBits, BitVec.setWidth_eq, BitVec.setWidth_eq]

/-- Data bit `i` of a byte as a symbol (30_encoding.md R93). -/
def dataBit (b : Byte) (i : Nat) : BitValue := if b.getLsbD i then .one else .zero

theorem dataBit_ne_terminator (b : Byte) (i : Nat) : dataBit b i ≠ .terminator := by
  rw [dataBit]
  split <;> decide

theorem withBit_lowBits (b : Byte) (i : Nat) : withBit (lowBits b i) i (dataBit b i) = lowBits b (i + 1) := by
  rw [dataBit]
  split
  next h => exact (BitVec.setWidth_setWidth_succ_eq_setWidth_setWidth_or_twoPow_of_getLsbD_true h).symm
  next h =>
    exact (BitVec.setWidth_setWidth_succ_eq_setWidth_setWidth_of_getLsbD_false (Bool.eq_false_iff.2 h)).symm

/-- `use i v` reads bit `i` of a ByteFrame after the bits `v`, and goes on as long as data bits come (44_demodulator.md
R181). -/
def ReadsData (use : Nat → Byte → BitUse) : Prop :=
  ∀ (s : State) (i : Nat) (v : Byte) (c : BitValue), i < 8 → c ≠ .terminator →
    gotBit s (use i v) c = s.awaitEdge (.first (use (i + 1) (withBit v i c)))

theorem byteStep_data {i : Nat} (v : Byte) {c : BitValue} (hi : i < 8) (hc : c ≠ .terminator) :
    byteStep i v c = .more (i + 1) (withBit v i c) := by
  simp only [byteStep, hi, hc, if_true, if_false]

theorem readsData_byte : ReadsData .byte := fun s i v c hi hc => by
  simp only [gotBit, byteStep_data v hi hc]

theorem readsData_block (pos : Nat) (num cs : Byte) : ReadsData (.block pos num cs) := fun s i v c hi hc => by
  simp only [gotBit, byteStep_data v hi hc]

/-- The nine bits of a ByteFrame, and then those of `vs`: the TERMINATOR finds the byte complete. -/
theorem ReadsFrom.byteFrame {s t : State} {use : Nat → Byte → BitUse} {b : Byte} {vs : List BitValue}
    (huse : ReadsData use) (hlast : ReadsFrom t s (use 8 b) (.terminator :: vs)) :
    ReadsFrom t s (use 0 0#8) (byteFrame b ++ vs) := by
  have fromBit (m : Nat) : ∀ i, i + m = 8 →
      ReadsFrom t s (use i (lowBits b i)) ((List.range' i m).map (dataBit b) ++ .terminator :: vs) := by
    induction m with
    | zero =>
      rintro i rfl
      rwa [lowBits_eight]
    | succ m ih =>
      intro i hi
      have hbit := huse s i (lowBits b i) (dataBit b i) (by omega) (dataBit_ne_terminator b i)
      rw [withBit_lowBits] at hbit
      rw [List.range'_succ, List.map_cons, List.cons_append]
      exact .next hbit (ih (i + 1) (by omega))
  rw [← lowBits_zero b]
  exact fromBit 8 0 rfl

/-! ### DECODE_BYTE -/

theorem readsFrom_byte (s : State) (b : Byte) :
    ReadsFrom (s.completed (b.setWidth 32) 0#32) s (.byte 0 0#8) (byteFrame b) := by
  rw [← List.append_nil (byteFrame b)]
  exact .byteFrame readsData_byte (.last (gotBit_byte_last s b))

/-- Settles O33: the nine symbols of the ByteFrame. -/
theorem decodeByteReadsItsByteFrame : Obligations.DecodeByteReadsItsByteFrame := by
  unfold Obligations.DecodeByteReadsItsByteFrame
  intro s n b es ht hes
  exact feedPairs_of_task ht (readsFrom_byte s b) hes

/-! ### DECODE_BLOCK -/

/-- The payload bytes from `Buf[k]` on, `cs` being the sum of those before them, and the checksum byte (30_encoding.md
R94, R95). -/
theorem readsFrom_payload (s : State) (num cs c : Byte) (payload : List Byte) (k : Nat)
    (hk : k + payload.length = 128) :
    ReadsFrom (blockByte (s.storePayload k payload) 129 num (payload.foldl (· + ·) cs) c) s
      (.block (k + 1) num cs 0 0#8) (payload.flatMap byteFrame ++ byteFrame c) := by
  induction payload generalizing s cs k with
  | nil =>
    obtain rfl : k = 128 := hk
    rw [List.flatMap_nil, List.nil_append, ← List.append_nil (byteFrame c)]
    exact .byteFrame (readsData_block 129 num cs) (.last (gotBit_block_last s 129 num cs c))
  | cons b bs ih =>
    rw [List.length_cons] at hk
    rw [List.flatMap_cons, List.append_assoc]
    exact .byteFrame (readsData_block (k + 1) num cs)
      (.next (blockByte_payload s (by omega) num cs b) (ih (s.setBuf k b) (cs + b) (k + 1) (by omega)))

/-- The number, the payload and the checksum byte (44_demodulator.md R183). -/
theorem readsFrom_block (s : State) (num c : Byte) {payload : List Byte} (hlength : payload.length = 128) :
    ReadsFrom (blockByte (s.storePayload 0 payload) 129 num (checksum payload) c) s (.block 0 0#8 0#8 0 0#8)
      (byteFrame num ++ payload.flatMap byteFrame ++ byteFrame c) := by
  rw [List.append_assoc]
  exact .byteFrame (readsData_block 0 0#8 0#8)
    (.next rfl (readsFrom_payload s num 0#8 c payload 0 ((Nat.zero_add _).trans hlength)))

theorem State.buf_storePayload_below (s : State) (payload : List Byte) {j k : Nat} (h : j < k) :
    (s.storePayload k payload).buf j = s.buf j := by
  induction payload generalizing s k with
  | nil => rfl
  | cons b bs ih => rw [State.storePayload, ih _ (by omega), s.buf_setBuf_other b h.ne]

theorem State.buf_storePayload (s : State) (payload : List Byte) (k i : Nat) (h : i < payload.length) :
    (s.storePayload k payload).buf (k + i) = payload[i] := by
  induction payload generalizing s k i with
  | nil => cases h
  | cons b bs ih =>
    cases i with
    | zero => exact (State.buf_storePayload_below _ bs k.lt_succ_self).trans (s.buf_setBuf_same k b)
    | succ i =>
      have hrest := ih (s.setBuf k b) (k + 1) i (Nat.lt_of_succ_lt_succ h)
      rw [Nat.add_right_comm] at hrest
      exact hrest

/-- Settles O34: the symbols of the block, and the two outcomes of its checksum byte. -/
theorem decodeBlockDeliversItsBlock : Obligations.DecodeBlockDeliversItsBlock := by
  unfold Obligations.DecodeBlockDeliversItsBlock
  intro s n num c payload es ht hlength hes stored
  constructor
  · rw [feedPairs_of_task ht (readsFrom_block s num c hlength) hes, blockByte_checksum]
    split
    next h => rw [h]
    next => rfl
  · intro i hi
    rw [← s.buf_storePayload payload 0 i hi, Nat.zero_add]

end Sys2Proof.Machine
end

section
/-!
SUPPORT. The block-sequence checker, NOP and the control registers (45_framer_control.md R195 to R205): SEQ_INIT,
SEQ_CHECK and NOP in their CMD write, the configuration writes, the soft reset, CLR_ERR and the STATUS write.
-/

namespace Sys2Proof.Machine

/-! ### The sequencer -/

/-- EXPECTED counts modulo 256 (45_framer_control.md R197). -/
theorem add_one_eq_ofNat_mod (x : Byte) : x + 1#8 = BitVec.ofNat 8 ((x.toNat + 1) % 256) := by
  apply BitVec.eq_of_toNat_eq
  simp

/-- SEQUENCE from a ready state is exact (60_exceptions.md R220). -/
theorem raiseSequence_of_ready {s : State} (n : Byte) (h : s.Ready) :
    raiseSequence s n = { s with
      result0 := n.setWidth 32, result1 := s.expected.setWidth 32, timeout := false, err := .sequence
      errPos := 0xFFFFFFFF#32, done := true } := by
  rw [raiseSequence, s.raiseErr_of_none _ _ _ _ h.2, ← s.busy_eq_false.1 h.1, Word.allOnes]

/-- An accepted number, with what the sequence makes of it, completes with the number and the old EXPECTED. -/
theorem State.finish_sequence {s : State} (n expected : Byte) (final : Bool) (h : s.Ready) :
    ({ s with expected := expected, final := final } : State).finish n.toNat s.expected.toNat false = { s with
      expected := expected, final := final, result0 := n.setWidth 32, result1 := s.expected.setWidth 32
      timeout := false, done := true } := by
  rw [State.finish_of_ready (s := { s with expected := expected, final := final }) _ _ _ h, resultWord_byte,
    resultWord_byte]

/-- Settles O15, by the branches of the policy. -/
theorem seqCheckFollowsThePolicy : Obligations.SeqCheckFollowsThePolicy := by
  unfold Obligations.SeqCheckFollowsThePolicy
  refine fun n => ⟨decode_eq_ok_iff.2 ⟨rfl, rfl⟩, fun s hready => ?_⟩
  intro accepted rejected
  have hrejected : raiseSequence s n = rejected := raiseSequence_of_ready n hready
  rw [exec_ready (.seqCheck n) s hready.1 hready.2, commandBody, runSeqCheck, hrejected, ← add_one_eq_ofNat_mod]
  refine congrArg _ ?_
  split_ifs
  · exact State.finish_sequence n s.expected s.final hready
  · rfl
  · exact State.finish_sequence n s.expected true hready
  · exact State.finish_sequence n (s.expected + 1#8) s.final hready
  · rfl

/-- Settles O14: the CMD write of a ready state completes with the EXPECTED it has set. -/
theorem seqInitStartsTheSequence : Obligations.SeqInitStartsTheSequence := by
  unfold Obligations.SeqInitStartsTheSequence
  refine ⟨rfl, fun s hready => ?_⟩
  have hready' : ({ s with expected := s.seqFirst, final := false } : State).Ready := hready
  rw [exec_ready .seqInit s hready.1 hready.2, commandBody, runSeqInit, State.finish_of_ready _ _ _ hready',
    resultWord_byte, resultWord_zero]

/-- Settles O10, by the three outcomes of the issue checks. -/
theorem nopCompletes : Obligations.NopCompletes := by
  unfold Obligations.NopCompletes
  refine ⟨rfl, fun s => ?_⟩
  rw [exec_eq_issue]
  split_ifs with hbusy herr
  · exact s.issue_busy _ hbusy
  · exact s.issue_error _ (Bool.eq_false_iff.2 hbusy) herr
  · have hready : s.Ready := ⟨Bool.eq_false_iff.2 hbusy, not_not.1 herr⟩
    rw [s.issue_ready _ hready.1 hready.2, commandBody, runNop, State.finish_of_ready _ _ _ hready, resultWord_zero]

/-! ### Configuration writes -/

theorem cfgWrite_illegal (s : State) {locked legal : Bool} (hlocked : ¬ locked = true) (hlegal : ¬ legal = true)
    (accepted : State) : cfgWrite s locked legal accepted = s.refuseCfg .cfgInvalid := by
  rw [cfgWrite, if_neg hlocked, if_neg hlegal]

theorem cfgWrite_accepted (s : State) {locked legal : Bool} (hlocked : ¬ locked = true) (hlegal : legal = true)
    (accepted : State) : cfgWrite s locked legal accepted = accepted := by
  rw [cfgWrite, if_neg hlocked, if_pos hlegal]

/-- The step of a host write that reaches a register through the checks of a configuration write
(45_framer_control.md R199): one state for each outcome of the checks. -/
theorem step_cfgWrite {s accepted : State} {addr : BitVec 12} {v : Word} {rest : List Move} {locked legal : Bool}
    {Locked Legal : Prop} (r : Reg) (hm : s.moves = .host (.write addr .word v) :: rest)
    (haddr : addr.toNat = r.offset) (hcmd : addr ≠ cmdOffset)
    (hwrite : writeReg { s with moves := rest } v r = cfgWrite { s with moves := rest } locked legal accepted)
    (hlocked : locked = true ↔ Locked) (hlegal : legal = true ↔ Legal) :
    (Locked → step s = .next (State.refuseCfg { s with moves := rest } .cfgLocked).ack)
      ∧ (¬ Locked → ¬ Legal → step s = .next (State.refuseCfg { s with moves := rest } .cfgInvalid).ack)
      ∧ (¬ Locked → Legal → step s = .next accepted.ack) := by
  rw [step_writeReg r hm haddr hcmd, hwrite, ← hlocked, ← hlegal]
  refine ⟨fun hl => ?_, fun hl hg => ?_, fun hl hg => ?_⟩
  · rw [cfgWrite_locked _ hl]
  · rw [cfgWrite_illegal _ hl hg]
  · rw [cfgWrite_accepted _ hl hg]

/-- `lo <= x <= hi` as the checks of a configuration write compute it. -/
theorem decide_and_decide_iff {p q : Prop} [Decidable p] [Decidable q] : (decide p && decide q) = true ↔ p ∧ q := by
  rw [Bool.and_eq_true, decide_eq_true_iff, decide_eq_true_iff]

theorem State.toneLocked_iff {s : State} : s.toneLocked = true ↔ s.busy = true ∨ s.txActive = true :=
  Bool.or_eq_true_iff

/-- Settles O45: each of the five registers is written through the checks, with its own lock and range. -/
theorem configurationWritesAreChecked : Obligations.ConfigurationWritesAreChecked := by
  unfold Obligations.ConfigurationWritesAreChecked
  intro s v rest s0 refused checked toneLocked
  have htone : State.toneLocked { s with moves := rest } = true ↔ toneLocked := State.toneLocked_iff
  refine ⟨fun hm => ?_, fun hm => ?_, fun hm => ?_, fun hm => ?_, fun hm => ?_⟩
  · exact step_cfgWrite .cfgSampleRate hm rfl (by decide) rfl htone decide_and_decide_iff
  · exact step_cfgWrite .cfgBaseFreq hm rfl (by decide) rfl htone decide_and_decide_iff
  · exact step_cfgWrite .cfgAmplitude hm rfl (by decide) rfl htone decide_eq_true_iff
  · exact step_cfgWrite .cfgLeadin hm rfl (by decide) rfl htone decide_eq_true_iff
  · exact step_cfgWrite .cfgSeq hm rfl (by decide) rfl Iff.rfl (iff_true_intro rfl)

/-! ### Control and status writes -/

theorem writeCtrl_softReset (s : State) {v : Word} (h : v.getLsbD 0 = true) : writeCtrl s v = s.softReset :=
  if_pos h

theorem writeCtrl_clrErr (s : State) {v : Word} (h0 : v.getLsbD 0 = false) (h1 : v.getLsbD 1 = true) :
    writeCtrl s v = s.clrErr := by
  rw [writeCtrl, if_neg (Bool.eq_false_iff.1 h0), if_pos h1]

/-- The soft reset is the power-on state but for what it keeps (10_state.md R48). -/
theorem State.softReset_eq_reset (s : State) :
    s.softReset = { State.reset with
      cfgSampleRate := s.cfgSampleRate, cfgBaseFreq := s.cfgBaseFreq, cfgAmplitude := s.cfgAmplitude
      cfgLeadin := s.cfgLeadin, passthrough := s.passthrough, seqFirst := s.seqFirst, expected := s.seqFirst
      mem := s.mem, moves := s.moves, source := s.source, sinkRoom := s.sinkRoom, pushed := s.pushed
      response := s.response, powerOns := s.powerOns, draws := s.draws } := rfl

/-- Settles O46: bit 0 of CTRL is the soft reset, whatever the other bits. -/
theorem softResetKeepsTheConfiguration : Obligations.SoftResetKeepsTheConfiguration := by
  unfold Obligations.SoftResetKeepsTheConfiguration
  intro s v rest hm hbit
  rw [step_writeReg .ctrl hm rfl (by decide), writeReg, writeCtrl_softReset _ hbit, State.softReset_eq_reset, State.ack]

/-- Settles O47: bit 1 of CTRL without bit 0 is CLR_ERR. -/
theorem clearErrorReturnsFromAnError : Obligations.ClearErrorReturnsFromAnError := by
  unfold Obligations.ClearErrorReturnsFromAnError
  intro s v rest hm hbit0 hbit1
  rw [step_writeReg .ctrl hm rfl (by decide), writeReg, writeCtrl_clrErr _ hbit0 hbit1, State.clrErr, State.ack,
    Word.allOnes]

/-- The STATUS write by its two bits (45_framer_control.md R205). -/
theorem writeStatus_eq_ite (s : State) (v : Word) :
    writeStatus s v = { s with
      done := if v.getLsbD 1 then false else s.done, overrun := if v.getLsbD 7 then false else s.overrun } := by
  simp only [writeStatus, Bool.if_false_left, Bool.decide_eq_true, Bool.and_comm]

/-- Settles O48. -/
theorem statusWriteClearsDoneAndOverrun : Obligations.StatusWriteClearsDoneAndOverrun := by
  unfold Obligations.StatusWriteClearsDoneAndOverrun
  intro s v rest hm
  rw [step_writeReg .status hm rfl (by decide), writeReg, writeStatus_eq_ite, State.ack]

end Sys2Proof.Machine
end

section
/-!
SUPPORT. The CMD write and the errors (60_exceptions.md R222 to R227): how a word is issued, what a command leaves alone
in the step of its CMD write, the first error, and that no step stops the block.
-/

namespace Sys2Proof.Machine

/-! ### The CMD write -/

theorem step_cmdWrite {s : State} {w : Word} {rest : List Move}
    (hm : s.moves = .host (.write cmdOffset .word w) :: rest) : step s = issueWord w { s with moves := rest } := by
  rw [step_move s _ rest hm, perform, hostStep_cmd]

/-- Settles O5: the step issues the word, and a legal word's issue is `exec` after the acknowledgement. -/
theorem stepIssuesTheDecodedCommand : Obligations.StepIssuesTheDecodedCommand := by
  unfold Obligations.StepIssuesTheDecodedCommand
  intro s w i rest hm hw
  simp only [step_cmdWrite hm, issueWord, hw, State.ack]

/-- Settles O8: whatever the word, its issue checks BUSY and then the standing error. -/
theorem cmdWriteUnderErrorIsRefused : Obligations.CmdWriteUnderErrorIsRefused := by
  unfold Obligations.CmdWriteUnderErrorIsRefused
  intro s w rest hm hidle herr
  obtain ⟨run, hrun⟩ := issueWord_eq_issue w { s with moves := rest }
  rw [step_cmdWrite hm, hrun]
  exact State.issue_error (State.ack { s with moves := rest }) run hidle herr

/-- Settles O16: each command runs, and its body starts the command before its first transfer. -/
theorem streamCommandStartsBusy : Obligations.StreamCommandStartsBusy := by
  unfold Obligations.StreamCommandStartsBusy
  intro s imm b v hready
  have runs (i : Instr) : exec i s = .next (commandBody i s) := exec_ready i s hready.1 hready.2
  refine ⟨fun hv => ?_, runs (.emitByte b), runs .nextEdge, runs .acquireSync, runs .decodeBlock, fun hvalid => ?_,
    fun hvalid => ?_⟩
  · simp only [runs, commandBody, runEmitBit, hv, State.start]
  · simp only [runs, commandBody, runDecodeBit, if_pos hvalid, State.awaitEdge, State.start]
  · simp only [runs, commandBody, runDecodeByte, if_pos hvalid, State.awaitEdge, State.start]

/-! ### What a command leaves alone in the step of its CMD write -/

/-- From `s` to `t` the CMD write of `i` changes only status, results, error, PHASE and SEQ_STATE; and the transmission
flags only for the commands that own them (41_modulator.md R131, R133). -/
structure CommandFrame (i : Instr) (s t : State) : Prop where
  rest : t = { s with
    task := t.task, done := t.done, overrun := t.overrun, timeout := t.timeout, err := t.err, errPos := t.errPos
    result0 := t.result0, result1 := t.result1, txActive := t.txActive, firstPending := t.firstPending
    phase := t.phase, expected := t.expected, final := t.final }
  txActive : i ≠ .emitRamp 0#8 → t.txActive = s.txActive
  firstPending : i ≠ .emitRamp 0#8 → (∀ num, i ≠ .emitBlock num) → t.firstPending = s.firstPending

theorem commandBody_frame (i : Instr) (s : State) : CommandFrame i s (commandBody i s) := by
  cases i with
  | emitBlock num => exact ⟨rfl, fun _ => rfl, fun _ hblock => absurd rfl (hblock num)⟩
  | emitRamp imm =>
    simp only [commandBody, runEmitRamp]
    split
    next hup =>
      cases directionOfCode_up hup
      exact ⟨by split <;> rfl, absurd rfl, absurd rfl⟩
    · split <;> exact ⟨rfl, fun _ => rfl, fun _ _ => rfl⟩
    · exact ⟨rfl, fun _ => rfl, fun _ _ => rfl⟩
  | cos | emitBit | decodeBit | decodeByte =>
    simp only [commandBody, runCos, runEmitBit, runDecodeBit, runDecodeByte]
    split <;> exact ⟨rfl, fun _ => rfl, fun _ _ => rfl⟩
  | seqCheck n =>
    simp only [commandBody, runSeqCheck]
    repeat' split
    all_goals exact ⟨rfl, fun _ => rfl, fun _ _ => rfl⟩
  | _ => exact ⟨rfl, fun _ => rfl, fun _ _ => rfl⟩

/-- Everything the CMD write of a command can do: it is dropped, it is refused, or its body runs. -/
theorem exec_cases {i : Instr} {s t : State} (h : exec i s = .next t) :
    t = s.drop ∨ t = s.refuse ∨ t = commandBody i s := by
  rw [exec_eq_issue] at h
  obtain ⟨-, h⟩ | ⟨-, -, h⟩ | ⟨-, -, h⟩ := State.issue_cases h
  · exact .inl h
  · exact .inr (.inl h)
  · exact .inr (.inr h)

theorem exec_frame {i : Instr} {s t : State} (h : exec i s = .next t) : CommandFrame i s t := by
  obtain rfl | rfl | rfl := exec_cases h
  · exact ⟨rfl, fun _ => rfl, fun _ _ => rfl⟩
  · exact ⟨rfl, fun _ => rfl, fun _ _ => rfl⟩
  · exact commandBody_frame i s

theorem exec_phase {i : Instr} {s t : State} (h : exec i s = .next t) (hramp : i ≠ .emitRamp 0#8) :
    t.phase = s.phase := by
  obtain rfl | rfl | rfl := exec_cases h
  · rfl
  · rfl
  · obtain heq | ⟨hi, -⟩ | ⟨-, heq⟩ := commandBody_engineState i s
    · exact congrArg EngineState.phase heq
    · exact absurd hi hramp
    · exact congrArg EngineState.phase heq

theorem exec_sequence {i : Instr} {s t : State} (h : exec i s = .next t) (hinit : i ≠ .seqInit)
    (hcheck : ∀ n, i ≠ .seqCheck n) : t.expected = s.expected ∧ t.final = s.final := by
  obtain rfl | rfl | rfl := exec_cases h
  · exact ⟨rfl, rfl⟩
  · exact ⟨rfl, rfl⟩
  · obtain heq | ⟨-, heq⟩ | ⟨hi | ⟨n, hi⟩, -⟩ := commandBody_engineState i s
    · exact ⟨congrArg EngineState.expected heq, congrArg EngineState.final heq⟩
    · exact ⟨congrArg EngineState.expected heq, congrArg EngineState.final heq⟩
    · exact absurd hi hinit
    · exact absurd hi (hcheck n)

/-- Settles O9: the frame of the command's body, and its writers of PHASE and SEQ_STATE. -/
theorem commandWriteFrame : Obligations.CommandWriteFrame := by
  unfold Obligations.CommandWriteFrame
  intro i s t h
  obtain ⟨hrest, htx, hfirst⟩ := exec_frame h
  have hphase : i ≠ .emitRamp 0#8 → t.phase = s.phase := exec_phase h
  have hseq : i ≠ .seqInit → (∀ n, i ≠ .seqCheck n) → t.expected = s.expected ∧ t.final = s.final := exec_sequence h
  rw [hrest]
  simp only [true_and]
  exact ⟨fun a => rfl, hphase, hseq, htx, hfirst⟩

/-! ### The block never stops -/

/-- A host access answers: a CMD write is issued, and any other access is the port's. -/
theorem hostStep_next (a : Access) (s : State) : ∃ t, hostStep a s = .next t := by
  unfold hostStep
  split
  next w _ =>
    obtain ⟨run, hrun⟩ := issueWord_eq_issue w s
    rw [hrun]
    exact s.ack.issue_next run
  · exact ⟨_, rfl⟩

theorem perform_next (m : Move) (s : State) : ∃ t, perform m s = .next t := by
  cases m with
  | host a => exact hostStep_next a s
  | _ => exact ⟨_, rfl⟩

/-- Settles O53: a step is the engine's turn or one move, and each answers. -/
theorem blockNeverStops : Obligations.BlockNeverStops := by
  unfold Obligations.BlockNeverStops
  intro s
  cases hm : s.moves with
  | nil => exact ⟨_, step_engine_default s hm⟩
  | cons m rest =>
    rw [step_move s m rest hm]
    exact perform_next m _

/-! ### The first error wins -/

/-- From `s` to `t` an error that stands goes on standing, with its frame position (60_exceptions.md R226). -/
def ErrorStands (s t : State) : Prop := s.err ≠ .none → t.err = s.err ∧ t.errPos = s.errPos

theorem errorStands_of_eq {s t : State} (herr : t.err = s.err) (hpos : t.errPos = s.errPos) : ErrorStands s t :=
  fun _ => ⟨herr, hpos⟩

theorem EdgeEffect.errorStands {s t : State} {use : EdgeUse} (h : EdgeEffect s use t) : ErrorStands s t := by
  cases h with
  | abort code r0 r1 pos _ _ => exact s.raiseErr_err_of_some code r0 r1 pos
  | acquire forBlock acc avg tot _ _ => cases forBlock <;> exact errorStands_of_eq rfl rfl
  | _ => exact errorStands_of_eq rfl rfl

theorem receiveStep_errorStands (s : State) (n : Nat) (use : EdgeUse) (x : Sample) :
    ErrorStands s (receiveStep s n use x) := by
  obtain ⟨-, h⟩ | ⟨half, h⟩ := receiveStep_cases s n use x
  · rw [h]
    exact errorStands_of_eq rfl rfl
  · exact h.errorStands

theorem emitStep_errorStands (s : State) (pos : EmitPos) (n : Nat) : ErrorStands s (emitStep s pos n) := by
  obtain ⟨p', -, ⟨pos', -, h⟩ | ⟨tx, r1, h⟩⟩ := emitStep_effect s pos n
  · rw [h]
    exact errorStands_of_eq rfl rfl
  · rw [h]
    exact errorStands_of_eq rfl rfl

theorem engineTurn_errorStands (s : State) : ErrorStands s (engineTurn s) := by
  obtain h | ⟨pos, n, -, -, h⟩ | ⟨n, use, x, rest, -, -, h⟩ := engineTurn_cases s
  · rw [h]
    exact errorStands_of_eq rfl rfl
  · rw [h]
    exact emitStep_errorStands s pos n
  · rw [h]
    exact receiveStep_errorStands { s with source := rest } n use x

/-- A command runs only where no error stands. -/
theorem issueWord_errorStands {s t : State} {w : Word} (h : issueWord w s = .next t) : ErrorStands s t := by
  obtain ⟨run, hrun⟩ := issueWord_eq_issue w s
  rw [hrun] at h
  obtain ⟨-, rfl⟩ | ⟨-, -, rfl⟩ | ⟨-, hnone, -⟩ := State.issue_cases h
  · exact errorStands_of_eq rfl rfl
  · exact errorStands_of_eq rfl rfl
  · exact fun herr => absurd hnone herr

theorem cfgWrite_errorStands {s accepted : State} (locked legal : Bool) (haccepted : ErrorStands s accepted) :
    ErrorStands s (cfgWrite s locked legal accepted) := by
  obtain ⟨code, -, h⟩ | ⟨-, -, h⟩ := cfgWrite_cases s locked legal accepted
  · rw [h]
    exact fun herr => ⟨if_neg herr, if_neg herr⟩
  · rw [h]
    exact haccepted

/-- Of the register writes only a soft reset and CLR_ERR end a standing error. -/
theorem writeReg_errorStands (s : State) (v : Word) (r : Reg) :
    (r = .ctrl ∧ (v.getLsbD 0 = true ∨ v.getLsbD 1 = true)) ∨ ErrorStands s (writeReg s v r) := by
  cases r with
  | ctrl =>
    by_cases hv : v.getLsbD 0 = true ∨ v.getLsbD 1 = true
    · exact .inl ⟨rfl, hv⟩
    · obtain ⟨hreset, hclear⟩ := not_or.1 hv
      rw [writeReg, writeCtrl, if_neg hreset, if_neg hclear]
      exact .inr (errorStands_of_eq rfl rfl)
  | cfgSampleRate | cfgBaseFreq | cfgAmplitude | cfgLeadin | cfgSeq =>
    exact .inr (cfgWrite_errorStands _ _ (errorStands_of_eq rfl rfl))
  | _ => exact .inr (errorStands_of_eq rfl rfl)

theorem hostPort_errorStands (s : State) (a : Access) :
    (∃ v, a = .write 0x004#12 .word v ∧ (v.getLsbD 0 = true ∨ v.getLsbD 1 = true)) ∨ ErrorStands s (hostPort s a) := by
  obtain ⟨resp, d, h⟩ | ⟨addr, v, r, rfl, haddr, h⟩ | ⟨addr, size, v, -, h⟩ := hostPort_cases s a
  · rw [h]
    exact .inr (errorStands_of_eq rfl rfl)
  · rw [h]
    obtain ⟨rfl, hv⟩ | hstands := writeReg_errorStands s v r
    · obtain rfl : addr = 0x004#12 := BitVec.eq_of_toNat_eq haddr
      exact .inl ⟨v, rfl, hv⟩
    · exact .inr hstands
  · obtain ⟨m, hm⟩ := s.writeBytes_eq addr.toNat v size.bytes
    rw [h, hm]
    exact .inr (errorStands_of_eq rfl rfl)

/-- In every step a standing error stands, but for the two writes to CTRL and the power-on reset. -/
theorem step_errorStands {s t : State} (h : step s = .next t) :
    (∃ v, s.WritesNext 0x004#12 v ∧ (v.getLsbD 0 = true ∨ v.getLsbD 1 = true)) ∨ s.nextMove = some .powerOn
      ∨ ErrorStands s t := by
  obtain ⟨-, rfl⟩ | ⟨rest, ⟨-, rfl⟩ | ⟨x, -, rfl⟩ | ⟨-, rfl⟩ | ⟨hm, -⟩ | ⟨w, -, hw⟩ | ⟨a, hm, -, rfl⟩⟩ := step_cases h
  · exact .inr (.inr (engineTurn_errorStands s))
  · exact .inr (.inr (engineTurn_errorStands { s with moves := rest }))
  · exact .inr (.inr (errorStands_of_eq rfl rfl))
  · exact .inr (.inr (errorStands_of_eq rfl rfl))
  · exact .inr (.inl (by rw [State.nextMove, hm, List.head?_cons]))
  · exact .inr (.inr (issueWord_errorStands (s := { s with moves := rest }) hw))
  · obtain ⟨v, rfl, hv⟩ | hstands := hostPort_errorStands { s with moves := rest } a
    · exact .inl ⟨v, by rw [State.WritesNext, State.nextMove, hm, List.head?_cons], hv⟩
    · exact .inr (.inr hstands)

/-- Settles O54: a change of ERR or ERR_POS says that the error did not stand. -/
theorem firstErrorWins : Obligations.FirstErrorWins := by
  unfold Obligations.FirstErrorWins
  intro s t h herr hchange
  obtain hctrl | hpower | hstands := step_errorStands h
  · exact .inl hctrl
  · exact .inr hpower
  · obtain ⟨hcode, hpos⟩ := hstands herr
    exact absurd hchange (not_or.2 ⟨not_not.2 hcode, not_not.2 hpos⟩)

end Sys2Proof.Machine
end

section
/-!
SUPPORT. The engine's steps and power-on reset (70_reset_and_hazards.md): the one sample an engine step moves, what a step of
each direction leaves alone, and the state after `rst` (R241, R252, R255).
-/

namespace Sys2Proof.Machine

/-! ### What an engine step can change -/

theorem engineTurn_of_step {s t : State} (hnext : s.EngineNext) (h : step s = .next t) :
    engineTurn { s with moves := s.moves.tail } = t :=
  Host.Outcome.next.inj ((step_engineTurn_tail hnext).symm.trans h)

/-- An EMIT step is its Push, and changes besides it only the task, PHASE, TX_ACTIVE and what `finish` writes
(40_synthesis.md R115). -/
theorem emitStep_frame {s t : State} {pos : EmitPos} {n : Nat} (h : emitStep s pos n = t) :
    t = { s.push (toneSample s.cfgSampleRate.toNat s.phase.toNat
        (emitAmp s.cfgSampleRate.toNat s.cfgAmplitude.toNat s.phase.toNat pos)) with
      task := t.task, done := t.done, timeout := t.timeout, result0 := t.result0, result1 := t.result1
      txActive := t.txActive, phase := t.phase } := by
  subst h
  obtain ⟨p', -, ⟨pos', -, h⟩ | ⟨tx, r1, h⟩⟩ := emitStep_effect s pos n
  · rw [h]
    rfl
  · rw [h]
    rfl

/-- The consumer of an edge changes only the task, the results, the error, the baseline and the buffer's cells. -/
theorem EdgeEffect.frame {s t : State} {use : EdgeUse} (h : EdgeEffect s use t) :
    t = { s with
      task := t.task, done := t.done, timeout := t.timeout, err := t.err, errPos := t.errPos
      result0 := t.result0, result1 := t.result1, baseline := t.baseline, baselineValid := t.baselineValid
      mem := t.mem } := by
  cases h with
  | acquire forBlock acc avg tot _ _ => cases forBlock <;> rfl
  | _ => rfl

/-- A receive step moves EDGE_STATE on to the pulled sample, and changes besides it only what the consumer of its edge may
(42_edge_detector.md R145). -/
theorem receiveStep_frame {s t : State} {n : Nat} {use : EdgeUse} {x : Sample} (h : receiveStep s n use x = t) :
    t = { s with
      prevSample := x, prevHalf := t.prevHalf
      task := t.task, done := t.done, timeout := t.timeout, err := t.err, errPos := t.errPos
      result0 := t.result0, result1 := t.result1, baseline := t.baseline, baselineValid := t.baselineValid
      mem := t.mem } := by
  subst h
  obtain ⟨-, h⟩ | ⟨half, h⟩ := receiveStep_cases s n use x
  · rw [h]
    rfl
  · rw [h.frame]
    rfl

/-! ### The sample an engine step moves -/

/-- Settles O36: the step is the EMIT step's one Push, or the receive step on the oldest sample offered. -/
theorem engineStepMovesOneSample : Obligations.EngineStepMovesOneSample := by
  unfold Obligations.EngineStepMovesOneSample
  intro s t hnext h
  have hturn := engineTurn_of_step hnext h
  constructor
  · intro pos n htask hroom
    rw [engineTurn_emit { s with moves := s.moves.tail } pos n htask (Nat.ne_of_gt hroom)] at hturn
    rw [emitStep_frame hturn]
    exact ⟨rfl, Nat.sub_add_cancel hroom, rfl⟩
  · intro n use x rest htask hsource
    rw [engineTurn_receive { s with moves := s.moves.tail } n use x rest htask hsource] at hturn
    rw [receiveStep_frame hturn]
    exact ⟨rfl, rfl, rfl, rfl⟩

/-! ### What an engine step leaves alone -/

/-- Settles O37: the engine holds, or its step has the frame of its direction. -/
theorem engineStepFrame : Obligations.EngineStepFrame := by
  unfold Obligations.EngineStepFrame
  intro s t hnext h
  have hturn := engineTurn_of_step hnext h
  obtain hhold | ⟨pos, n, htask, -, hemit⟩ | ⟨n, use, x, rest, htask, -, hreceive⟩ :=
    engineTurn_cases { s with moves := s.moves.tail }
  · rw [← hturn, hhold]
    simp [State.readByte]
  · rw [emitStep_frame (hemit.symm.trans hturn)]
    have htask : s.task = some (.emit pos n) := htask
    simp [htask, State.readByte]
  · rw [receiveStep_frame (hreceive.symm.trans hturn)]
    have htask : s.task = some (.receive n use) := htask
    simp [htask]

/-! ### Power-on reset -/

/-- After a power-on reset no byte is written: each is its new draw (10_state.md R48). -/
theorem State.powerOn_buf (s : State) (i : Nat) : s.powerOn.buf i = Config.bufDraw (s.powerOns + 1) i :=
  congrArg (Config.bufDraw (s.powerOns + 1)) (Nat.add_sub_cancel_left 0x100 i)

/-- Settles O52: the power-on move is `State.powerOn`, which writes no byte. -/
theorem powerOnResetsAllButTheStreams : Obligations.PowerOnResetsAllButTheStreams := by
  unfold Obligations.PowerOnResetsAllButTheStreams
  intro s rest hm
  have hstep : step s = .next (State.powerOn { s with moves := rest }) := step_move s .powerOn rest hm
  refine ⟨hstep, fun t ht i => ?_⟩
  cases hstep.symm.trans ht
  exact State.powerOn_buf { s with moves := rest } i

end Sys2Proof.Machine
end
